-- ==== Sys2Proof/Word.lean ====
section
/-! DEFINITION. The widths of MFB-SCAN (spec/00_scope.md R7) as names for bit vectors, and the one constant of the
source's arithmetic. All quantities are unsigned (R8). -/

namespace Sys2Proof

/-- A frame word, 16 cells: bit `4*r + c` is the cell at row `r`, column `c` (R81). -/
abbrev FrameWord := BitVec 16

/-- A duration in microseconds, or any other 32-bit register value (R7, `DUR_W`). -/
abbrev Word := BitVec 32

/-- A host access `{we, idx[3:0], data[31:0]}` (R85). -/
abbrev AccessWord := BitVec 37

/-- The index of a CSR (R43). -/
abbrev CsrIdx := BitVec 4

/-- The index of a row or a column line, 0 to 3 (R31, R88). -/
abbrev LineIdx := BitVec 2

/-- The four row lines or the four column lines as a group (R36, R37). -/
abbrev Lines := BitVec 4

/-- The 5-bit code of a micro-operation (R88). -/
abbrev UopCode := BitVec 5

/-- `US_PER_SECOND` (R7). -/
abbrev usPerSecond : Nat := 1000000

end Sys2Proof
end

