-- ==== Sys2Proof/Syntax.lean ====
section
/-! DEFINITION. The instructions of MFB-SCAN: the 26 rows of spec/opcode_table.json in their five formats
(spec/30_encoding.md R80), the micro-operations' line part, the events of the trace (R11), the states of the FSM
(R33) and the turns the agents take (R10). -/

namespace Sys2Proof

/-- The five encoded formats (R80). -/
inductive Format where
  /-- a frame word, 16 bits (R81) -/
  | frame
  /-- a host access, 37 bits (R85) -/
  | access
  /-- the data of a write to `CTRL`, 32 bits (R86) -/
  | cmd
  /-- a micro-operation: 5-bit code and 32-bit argument (R88) -/
  | uop
  /-- the state register `ST`, 4 bits (R93) -/
  | step
  deriving DecidableEq, Repr

/-- The instructions: one constructor per row of spec/opcode_table.json. -/
inductive Instr where
  /-- FRAME.DARK: the frame word 0 (R182) -/
  | frameDark
  /-- FRAME.LIT: any other frame word (R183) -/
  | frameLit (cells : FrameWord)
  /-- CSR.RD: host read (R196) -/
  | csrRd (idx : CsrIdx)
  /-- CSR.WR: host write (R197 to R199) -/
  | csrWr (idx : CsrIdx) (data : Word)
  /-- NOP: `CMD = 0` (R200) -/
  | nop
  /-- RENDER: `CMD = 1` (R201) -/
  | render
  /-- PLAY: `CMD = 2` (R202) -/
  | play
  /-- CMD.RSVD: `CMD = 3` (R203) -/
  | cmdRsvd
  /-- ROW.DE: deassert a row line (R112) -/
  | rowDe (idx : LineIdx)
  /-- ROW.AS: assert a row line (R111) -/
  | rowAs (idx : LineIdx)
  /-- COL.DE: deassert a column line (R114) -/
  | colDe (idx : LineIdx)
  /-- COL.AS: assert a column line (R113) -/
  | colAs (idx : LineIdx)
  /-- WAIT.US: wait so many microseconds (R115) -/
  | waitUs (micros : Word)
  /-- WAIT.MS: wait so many milliseconds (R116) -/
  | waitMs (millis : BitVec 16)
  /-- S_IDLE (R151) -/
  | sIdle
  /-- S_FETCH (R181) -/
  | sFetch
  /-- S_NORM (R135) -/
  | sNorm
  /-- S_DARK (R152, R153) -/
  | sDark
  /-- S_ROW_EN (R154) -/
  | sRowEn
  /-- S_CELL (R155) -/
  | sCell
  /-- S_COL_ON (R156) -/
  | sColOn
  /-- S_PULSE (R157, R158) -/
  | sPulse
  /-- S_COL_OFF (R159) -/
  | sColOff
  /-- S_ROW_DIS (R160) -/
  | sRowDis
  /-- S_DONE (R161, R184) -/
  | sDone
  /-- S_FAULT (R225) -/
  | sFault
  deriving DecidableEq, Repr

/-- The commands of the `cmd` format, as the command decoder tells them apart (R86). -/
inductive Cmd where
  | nop | render | play | rsvd
  deriving DecidableEq, Repr

/-- The four line micro-operations (R89), the ones a drive line answers (R118). -/
inductive LineOp where
  | rowDe (idx : LineIdx)
  | rowAs (idx : LineIdx)
  | colDe (idx : LineIdx)
  | colAs (idx : LineIdx)
  deriving DecidableEq, Repr

/-- The events of the trace (R11). -/
inductive Event where
  | rowAssert (idx : LineIdx)
  | rowDeassert (idx : LineIdx)
  | colAssert (idx : LineIdx)
  | colDeassert (idx : LineIdx)
  | waitUs (micros : Word)
  /-- never issued by this block (R11, R116; log 13) -/
  | waitMs (millis : BitVec 16)
  deriving DecidableEq, Repr

/-- The states of the FSM (R33). There is no name for the codes 11 to 14, as R162 asks (log 12). -/
inductive St where
  | idle | fetch | norm | dark | rowEn | cell | colOn | pulse | colOff | rowDis | done | fault
  deriving DecidableEq, Repr

/-- One turn of one agent (R10; log 3). -/
inductive Turn where
  /-- the block takes its enabled step, if it has one (R150) -/
  | block
  /-- the delay source completes the pending wait, if there is one (R119) -/
  | delay
  /-- the host makes one access (R85, R196, R197) -/
  | host (access : AccessWord)
  /-- the host applies reset (R240) -/
  | reset
  deriving DecidableEq, Repr, Inhabited

/-- Why a decoder rejects a word. -/
inductive Reject where
  /-- a micro-operation code of R92 -/
  | reservedUop (code : UopCode)
  /-- WAIT.MS with `arg[31:16]` not 0, which R91 never forms (log 15) -/
  | wideMillis (arg : Word)
  /-- an `ST` code 11 to 14 (R162) -/
  | reservedStep (code : BitVec 4)
  /-- more bits than the format has -/
  | tooWide (format : Format) (n : Nat)
  deriving DecidableEq, Repr

end Sys2Proof
end

