-- ==== Sys2Proof/WellFormed.lean ====
section
/-! DEFINITION. Which instruction terms stand for a word (spec/30_encoding.md). One check only: the operand of
FRAME.LIT is not the dark frame, which is FRAME.DARK (R83). Every other operand is legal at every value of its
width (R84, R85, R88). -/

namespace Sys2Proof

/-- The term stands for an encoded word (R83). -/
def Instr.wf : Instr → Bool
  | .frameDark => true
  | .frameLit cells => cells != 0
  | .csrRd _ => true
  | .csrWr _ _ => true
  | .nop => true
  | .render => true
  | .play => true
  | .cmdRsvd => true
  | .rowDe _ => true
  | .rowAs _ => true
  | .colDe _ => true
  | .colAs _ => true
  | .waitUs _ => true
  | .waitMs _ => true
  | .sIdle => true
  | .sFetch => true
  | .sNorm => true
  | .sDark => true
  | .sRowEn => true
  | .sCell => true
  | .sColOn => true
  | .sPulse => true
  | .sColOff => true
  | .sRowDis => true
  | .sDone => true
  | .sFault => true

end Sys2Proof
end

