-- ==== Sys2Proof/Decode.lean ====
section
/-! DEFINITION. The decoders and the encoder of the five formats (spec/30_encoding.md R80 to R93), each total and
rejecting by name, and `decodeTableWord`, the host's view of them. -/

namespace Sys2Proof

/-- The number of bits of a word of each format (R80). A micro-operation is taken as `{arg[31:0], uop[4:0]}`
(log 15). -/
def Format.bits : Format → Nat
  | .frame => 16
  | .access => 37
  | .cmd => 32
  | .uop => 37
  | .step => 4

/-- FRAME.DARK is tested first; what does not match is FRAME.LIT (R83). -/
def decodeFrame (w : FrameWord) : Instr :=
  if w = 0 then .frameDark else .frameLit w

/-- The access decoder (R85): bit 36 `we`, bits 35:32 `idx`, bits 31:0 `data`. -/
def decodeAccess (w : AccessWord) : Instr :=
  if w.getLsbD 36 then .csrWr (w.extractLsb' 32 4) (w.extractLsb' 0 32) else .csrRd (w.extractLsb' 32 4)

/-- The command decoder (R86): `CMD` = bits 1:0, bits 31:2 ignored. -/
def cmdOf (data : Word) : Cmd :=
  match data.getLsbD 1, data.getLsbD 0 with
  | false, false => .nop
  | false, true => .render
  | true, false => .play
  | true, true => .rsvd

/-- The command decoder's answer as an instruction (R86). -/
def decodeCmd (data : Word) : Instr :=
  match cmdOf data with
  | .nop => .nop
  | .render => .render
  | .play => .play
  | .rsvd => .cmdRsvd

/-- The delay operations (R89): `unit` is bit 3, bits 2:0 must be 0 (R88); a WAIT.MS takes a zero-extended 16-bit
argument (R91). -/
def decodeDelay (code : UopCode) (arg : Word) : Except Reject Instr :=
  if code = 0x10#5 then .ok (.waitUs arg)
  else if code = 0x18#5 then
    if arg.extractLsb' 16 16 = 0 then .ok (.waitMs (arg.extractLsb' 0 16)) else .error (.wideMillis arg)
  else .error (.reservedUop code)

/-- The micro-operation decoder (R88, R89): `class` is bit 4, `bank` bit 3, `set` bit 2, `idx` bits 1:0; a line
operation ignores the argument. -/
def decodeUop (code : UopCode) (arg : Word) : Except Reject Instr :=
  let idx := code.extractLsb' 0 2
  match code.getLsbD 4, code.getLsbD 3, code.getLsbD 2 with
  | false, false, false => .ok (.rowDe idx)
  | false, false, true => .ok (.rowAs idx)
  | false, true, false => .ok (.colDe idx)
  | false, true, true => .ok (.colAs idx)
  | true, _, _ => decodeDelay code arg

/-- The step decoder (R33, R93): all four bits are matched; 11 to 14 are reserved (R162). -/
def decodeStep (code : BitVec 4) : Except Reject Instr :=
  match code.toNat with
  | 0 => .ok .sIdle
  | 1 => .ok .sFetch
  | 2 => .ok .sNorm
  | 3 => .ok .sDark
  | 4 => .ok .sRowEn
  | 5 => .ok .sCell
  | 6 => .ok .sColOn
  | 7 => .ok .sPulse
  | 8 => .ok .sColOff
  | 9 => .ok .sRowDis
  | 10 => .ok .sDone
  | 15 => .ok .sFault
  | _ => .error (.reservedStep code)

/-- A number of at most the format's width, decoded. -/
def decodeBits : Format → Nat → Except Reject Instr
  | .frame, n => .ok (decodeFrame (BitVec.ofNat 16 n))
  | .access, n => .ok (decodeAccess (BitVec.ofNat 37 n))
  | .cmd, n => .ok (decodeCmd (BitVec.ofNat 32 n))
  | .uop, n => decodeUop (BitVec.ofNat 5 n) (BitVec.ofNat 32 (n / 32))
  | .step, n => decodeStep (BitVec.ofNat 4 n)

/-- The decoder of each format, total on every number: bit 0 of the word is bit 0 of the number. -/
def decode (f : Format) (n : Nat) : Except Reject Instr :=
  if n < 2 ^ f.bits then decodeBits f n else .error (.tooWide f n)

/-- The number that bytes make, the first byte being bits 7:0. DESIGN CHOICE (log 25): the spec gives the encoded words
no byte order (R64). -/
def natOfBytes : List (BitVec 8) → Nat
  | [] => 0
  | b :: bs => b.toNat + 256 * natOfBytes bs

/-- The decoder on any bytes, in the byte order of `natOfBytes` (log 25). -/
def decodeBytes (f : Format) (bytes : List (BitVec 8)) : Except Reject Instr :=
  decode f (natOfBytes bytes)

/-- The code of a state (R33). -/
def stCode : St → BitVec 4
  | .idle => 0
  | .fetch => 1
  | .norm => 2
  | .dark => 3
  | .rowEn => 4
  | .cell => 5
  | .colOn => 6
  | .pulse => 7
  | .colOff => 8
  | .rowDis => 9
  | .done => 10
  | .fault => 15

/-- The code of a line operation, `{0, bank, set, idx}` (R89, R91). -/
def lineCode : LineOp → UopCode
  | .rowDe i => 0b000#3 ++ i
  | .rowAs i => 0b001#3 ++ i
  | .colDe i => 0b010#3 ++ i
  | .colAs i => 0b011#3 ++ i

/-- The format an instruction is encoded in (R80). -/
def formatOf : Instr → Format
  | .frameDark => .frame
  | .frameLit _ => .frame
  | .csrRd _ => .access
  | .csrWr _ _ => .access
  | .nop => .cmd
  | .render => .cmd
  | .play => .cmd
  | .cmdRsvd => .cmd
  | .rowDe _ => .uop
  | .rowAs _ => .uop
  | .colDe _ => .uop
  | .colAs _ => .uop
  | .waitUs _ => .uop
  | .waitMs _ => .uop
  | .sIdle => .step
  | .sFetch => .step
  | .sNorm => .step
  | .sDark => .step
  | .sRowEn => .step
  | .sCell => .step
  | .sColOn => .step
  | .sPulse => .step
  | .sColOff => .step
  | .sRowDis => .step
  | .sDone => .step
  | .sFault => .step

/-- A micro-operation's word `{arg, uop}` (log 15). -/
def uopWord (arg : Word) (code : UopCode) : Nat := (arg ++ code).toNat

/-- The word of an instruction, ignored bits written as 0 (R81, R85, R86, R88, R93). -/
def encode : Instr → Nat
  | .frameDark => 0
  | .frameLit cells => cells.toNat
  | .csrRd idx => (0#1 ++ idx ++ 0#32).toNat
  | .csrWr idx data => (1#1 ++ idx ++ data).toNat
  | .nop => 0
  | .render => 1
  | .play => 2
  | .cmdRsvd => 3
  | .rowDe idx => uopWord 0 (0b000#3 ++ idx)
  | .rowAs idx => uopWord 0 (0b001#3 ++ idx)
  | .colDe idx => uopWord 0 (0b010#3 ++ idx)
  | .colAs idx => uopWord 0 (0b011#3 ++ idx)
  | .waitUs n => uopWord n 0x10
  | .waitMs n => uopWord (0#16 ++ n) 0x18
  | .sIdle => 0
  | .sFetch => 1
  | .sNorm => 2
  | .sDark => 3
  | .sRowEn => 4
  | .sCell => 5
  | .sColOn => 6
  | .sPulse => 7
  | .sColOff => 8
  | .sRowDis => 9
  | .sDone => 10
  | .sFault => 15

/-- A decoder's answer without the reason of a rejection. -/
def accepted : Except Reject Instr → Option Instr
  | .ok i => some i
  | .error _ => none

/-- The instruction the decoder reads from a word of the opcode table. The number of bits tells the format: 16 frame,
37 or (in whole bytes) 40 access, 32 cmd, 5 uop, 4 step. In whole bytes both uop and step have 8 bits: a step code is
tried first, then a micro-operation with argument 0 (log 14). -/
def decodeTableWord (nbits w : Nat) : Option Instr :=
  if nbits = 16 then accepted (decode .frame w)
  else if nbits = 37 then accepted (decode .access w)
  else if nbits = 40 then accepted (decode .access w)
  else if nbits = 32 then accepted (decode .cmd w)
  else if nbits = 5 then accepted (decode .uop w)
  else if nbits = 4 then accepted (decode .step w)
  else if nbits = 8 then
    match decode .step w with
    | .ok i => some i
    | .error _ => accepted (decode .uop w)
  else none

end Sys2Proof
end

