-- ==== Sys2Proof/Config.lean ====
section
/-! DEFINITION. The open parameters and the free values of MFB-SCAN (spec/92_eei_decisions.md P1 to P4,
spec/93_implementation_defined.md). Every constant here is opaque: nothing in Lean can evaluate it, so a theorem
holds whatever it is. `lineFault` is applied to
`State.draws`, the other functions of a `Nat` but `romWord` to `State.ticks`. -/

namespace Sys2Proof

/-- The highest word address of the pattern store: `ROM_DEPTH - 1`, so `1 ≤ ROM_DEPTH ≤ 65536` (R7, P1; log 2). -/
opaque Config.romTop : BitVec 16

/-- The word of the pattern store at an address that a state's memory does not list (R61, P2; log 2). -/
opaque Config.romWord : Nat → FrameWord

/-- Whether a line operation fails, where the state's list of answers has ended (R118, U6; log 4). -/
opaque Config.lineFault : Nat → Bool

/-- The turn taken next, where the state's list of turns has ended (R10; log 3). -/
opaque Config.turn : Nat → Turn

/-- `passcnt(t, 0)`, which R132 does not define (log 9). -/
opaque Config.passcntByZero : Word → Word

/-- `budget(0)`, which R133 does not define (log 9). -/
opaque Config.budgetByZero : Word

/-- What `PASS` holds after counting past 2^32 - 1, which R35 says never happens (log 10). -/
opaque Config.passOverflow : Word

/-- What `FP` holds after counting past 65535, which R35 says never happens (log 10). -/
opaque Config.fpOverflow : BitVec 16

/-- The physical level of the pin whose operation failed (U3; log 19). -/
opaque Config.failedPin : Nat → Bool

/-- `dly_val` while no wait is pending (R120; log 19). -/
opaque Config.idleDlyVal : Nat → Word

/-- `pat_addr` while no fetch is made (R62; log 19). -/
opaque Config.idlePatAddr : Nat → BitVec 16

end Sys2Proof
end

