-- ==== Sys2Proof/Machine/State.lean ====
section
/-! DEFINITION. The state of MFB-SCAN (spec/10_state.md R20 to R42), its reset value (R49), and the reasons a step
can stop. Plain data. -/

namespace Sys2Proof.Machine

/-- `MODE` (R34): what the current or last render was started by. -/
inductive Mode where
  | oneShot | play
  deriving DecidableEq, Repr

/-- The fault causes of `FCAUSE` (R42, R215); code 7 is never written and has no name (log 12). -/
inductive Cause where
  | none | hardwareFault | zeroPulse | zeroFps | emptySequence | badRange | badCommand
  deriving DecidableEq, Repr

/-- The pattern store (R61): `depth` is `ROM_DEPTH` in words, `cells` the listed words by word address, addresses
strictly rising; an unlisted word of the store is `Config.romWord` of its address (log 1, 2). -/
structure Memory where
  depth : Nat
  cells : List (Nat × FrameWord)
  deriving DecidableEq, Repr

/-- The whole state. The registers of R20, then the pattern store and the trace, which the spec calls parameter and
history (R48), then the model's own fields (log 3, 4, 5, 7). -/
structure State where
  /-- `FRAME` (R21) -/
  frame : FrameWord
  /-- `TOTAL` (R22) -/
  total : Word
  /-- `MINP` (R23) -/
  minp : Word
  /-- `FPS` (R24) -/
  fps : Word
  /-- `BASE` (R25) -/
  base : BitVec 16
  /-- `LEN` (R26) -/
  len : BitVec 16
  /-- `LIT` (R27) -/
  lit : BitVec 5
  /-- `PDUR` (R28) -/
  pdur : BitVec 36
  /-- `PCNT` (R29) -/
  pcnt : Word
  /-- `PASS` (R30) -/
  pass : Word
  /-- `ROW` (R31) -/
  row : LineIdx
  /-- `COL` (R31) -/
  col : LineIdx
  /-- `FP` (R32) -/
  fp : BitVec 16
  /-- `ST` (R33) -/
  st : St
  /-- `MODE` (R34) -/
  mode : Mode
  /-- `ROWL[0..3]`, 1 = asserted (R36) -/
  rowl : Lines
  /-- `COLL[0..3]`, 1 = asserted (R37) -/
  coll : Lines
  /-- `DONE` (R39) -/
  done : Bool
  /-- `WPEND` (R41) -/
  wpend : Bool
  /-- `FCAUSE` (R42) -/
  fcause : Cause
  /-- `FINFO` (R42) -/
  finfo : UopCode
  /-- the pattern store: `ROM` and `ROM_DEPTH` (R61) -/
  mem : Memory
  /-- the events issued in this run, oldest first (R11; log 6) -/
  trace : List Event
  /-- `csr_rdata` as the last host read left it (R195, R196; log 7) -/
  csrRdata : Word
  /-- the turns the agents take next (R10; log 3) -/
  turns : List Turn
  /-- the next results of line operations, `true` = fault (R118; log 4) -/
  answers : List Bool
  /-- how many results of line operations have been drawn free: what `Config.lineFault` is applied to (log 4, 5) -/
  draws : Nat
  /-- how many steps have been taken: what the other free values are applied to (log 3, 5, 19) -/
  ticks : Nat
  deriving DecidableEq, Repr

/-- Why the machine stops with a fault of the model's own. The six faults of R215 are next states, not these. -/
inductive Fault where
  /-- raised by `S_FETCH` where `BASE + FP` is no address of the store: R62 says this never happens. Safe (log 18). -/
  | outsideStore (addr : Nat)
  deriving DecidableEq, Repr

/-- Why the machine gives an instruction no meaning. -/
inductive Refusal where
  /-- raised by an arm of `exec` for an instruction the model has not reached; no arm does. Safe. -/
  | notModelled (mnemonic : String)
  /-- raised by a block turn whose `ST` code decodes to no step; no value of `St` has such a code (R162). Safe. -/
  | noSuchOperation
  deriving DecidableEq, Repr

/-- The state after reset (R49, R240). The pattern store is a parameter (R48): nothing listed, its depth the open
`ROM_DEPTH` (log 2). The last five values are the model's (log 5, 7). -/
def State.reset : State where
  frame := 0
  total := 0
  minp := 0
  fps := 0
  base := 0
  len := 0
  lit := 0
  pdur := 0
  pcnt := 0
  pass := 0
  row := 0
  col := 0
  fp := 0
  st := .idle
  mode := .oneShot
  rowl := 0
  coll := 0
  done := false
  wpend := false
  fcause := .none
  finfo := 0
  mem := { depth := Config.romTop.toNat + 1, cells := [] }
  trace := []
  csrRdata := 0
  turns := []
  answers := []
  draws := 0
  ticks := 0

end Sys2Proof.Machine
end

