-- ==== Sys2Proof/Machine/Flags.lean ====
section
/-! DEFINITION. The flags and the CSR values the host reads (spec/10_state.md R39 to R47). -/

namespace Sys2Proof.Machine

/-- `BUSY` (R40). -/
def State.busy (s : State) : Bool := s.st != .idle && s.st != .fault

/-- `FAULT` (R40). -/
def State.faulted (s : State) : Bool := s.st == .fault

/-- The code of `MODE` (R34). -/
def modeBit : Mode → BitVec 1
  | .oneShot => 0
  | .play => 1

/-- The code of `FCAUSE` (R42). -/
def causeCode : Cause → BitVec 3
  | .none => 0
  | .hardwareFault => 1
  | .zeroPulse => 2
  | .zeroFps => 3
  | .emptySequence => 4
  | .badRange => 5
  | .badCommand => 6

/-- `STATUS` (R45): from bit 12 down `MODE`, `COL`, `ROW`, `ST`, `WPEND`, `FAULT`, `DONE`, `BUSY`. -/
def statusWord (s : State) : Word :=
  (modeBit s.mode ++ s.col ++ s.row ++ stCode s.st ++ BitVec.ofBool s.wpend ++ BitVec.ofBool s.faulted
    ++ BitVec.ofBool s.done ++ BitVec.ofBool s.busy).setWidth 32

/-- CSR 8 (R42): `FCAUSE` in bits 2:0, `FINFO` in bits 12:8. -/
def faultWord (s : State) : Word := (s.finfo ++ 0#5 ++ causeCode s.fcause).setWidth 32

/-- `LINES` (R43): `ROWL` in bits 3:0, `COLL` in bits 7:4. -/
def linesWord (s : State) : Word := (s.coll ++ s.rowl).setWidth 32

/-- The value of a CSR as the host reads it (R43): unused bits 0, `CTRL` reads 0 (R44). -/
def csrValue (idx : CsrIdx) (s : State) : Word :=
  match idx.toNat with
  | 0 => 0
  | 1 => statusWord s
  | 2 => s.frame.setWidth 32
  | 3 => s.total
  | 4 => s.minp
  | 5 => s.fps
  | 6 => s.base.setWidth 32
  | 7 => s.len.setWidth 32
  | 8 => faultWord s
  | 9 => s.fp.setWidth 32
  | 10 => linesWord s
  | 11 => s.lit.setWidth 32
  | 12 => s.pdur.extractLsb' 0 32
  | 13 => (s.pdur.extractLsb' 32 4).setWidth 32
  | 14 => s.pcnt
  | _ => s.pass

end Sys2Proof.Machine
end

