-- ==== Sys2Proof/Machine/Operands.lean ====
section
/-! DEFINITION. Operand selection: the cell under (`ROW`, `COL`) (spec/30_encoding.md R82), the bit of a line
(R36, R37), the successors of the counters (spec/10_state.md R35) and the parameter registers the host writes
(spec/44_host_commands.md R198). -/

namespace Sys2Proof.Machine

/-- The index of the cell at (`r`, `c`): `{r, c}`, that is `4*r + c` (R82). -/
def cellIndex (r c : LineIdx) : BitVec 4 := r ++ c

/-- Whether the cell at (`r`, `c`) of a frame is lit (R81, R82). -/
def cellLit (f : FrameWord) (r c : LineIdx) : Bool := f.getLsbD (cellIndex r c).toNat

/-- The bit of line `i` in `ROWL` or `COLL` (R36, R37). -/
def lineBit (i : LineIdx) : Lines := 1#4 <<< i.toNat

/-- `PASS + 1` (R160), free past the register's width (R35; log 10). -/
def passSucc (p : Word) : Word := if p = BitVec.allOnes 32 then Config.passOverflow else p + 1

/-- `FP + 1` as a register value (R184), free past the register's width (R35; log 10). -/
def fpSucc (p : BitVec 16) : BitVec 16 := if p = BitVec.allOnes 16 then Config.fpOverflow else p + 1

/-- `FP` after the frame: 0 after the last of `len` frames, the next index otherwise; `FP + 1` is formed in 17 bits
(R184). -/
def fpNext (fp len : BitVec 16) : BitVec 16 := if fp.toNat + 1 = len.toNat then 0 else fpSucc fp

/-- The parameter register a host write goes to, its low bits of the data stored (R198); the other indexes store
nothing (R199). -/
def parameterWrite (idx : CsrIdx) (data : Word) (s : State) : State :=
  match idx.toNat with
  | 2 => { s with frame := data.extractLsb' 0 16 }
  | 3 => { s with total := data }
  | 4 => { s with minp := data }
  | 5 => { s with fps := data }
  | 6 => { s with base := data.extractLsb' 0 16 }
  | 7 => { s with len := data.extractLsb' 0 16 }
  | _ => s

end Sys2Proof.Machine
end

