-- ==== Sys2Proof/Machine/Ops.lean ====
section
/-! DEFINITION. The shared operations: reading the pattern store (spec/20_memory.md), issuing micro-operations
(spec/40_micro_ops.md R110 to R119), fault entry (spec/60_exceptions.md R222) and reset (spec/70_reset_and_hazards.md
R240). There is no return from a fault (R225): reset is the only way out of `S_FAULT`. -/

namespace Sys2Proof.Machine

/-- The listed word at an address, if one is listed. -/
def listedWord : List (Nat × FrameWord) → Nat → Option FrameWord
  | [], _ => none
  | c :: cs, a => if c.1 = a then some c.2 else listedWord cs a

/-- `MemRead(addr, 1)` (R62): `ROM[addr]` for an address of the store; no word exists outside it. There is no
MemWrite (R63). -/
def memRead (m : Memory) (a : Nat) : Option FrameWord :=
  if a < m.depth then some ((listedWord m.cells a).getD (Config.romWord a)) else none

/-- Addresses strictly rising, from `low` on. -/
def rising : Nat → List (Nat × FrameWord) → Bool
  | _, [] => true
  | low, c :: cs => decide (low ≤ c.1) && rising (c.1 + 1) cs

/-- The canonical form of a pattern store: 1 to 65536 words (R7), the listed addresses strictly rising and inside the
store, and no listed word equal to what its address would read as unlisted (log 2). -/
def Memory.wf (m : Memory) : Bool :=
  decide (1 ≤ m.depth) && decide (m.depth ≤ 65536) && rising 0 m.cells
    && m.cells.all fun c => decide (c.1 < m.depth) && c.2 != Config.romWord c.1

/-- The event of a micro-operation is appended to the trace (R110). -/
def State.record (e : Event) (s : State) : State := { s with trace := s.trace ++ [e] }

/-- The result of the next line operation, `true` = fault: the next listed answer, free where the list has ended
(R118; log 4). -/
def State.lineAnswer (s : State) : Bool := s.answers.headD (Config.lineFault s.draws)

/-- One answer of the drive lines has been taken (log 4). -/
def State.answered (s : State) : State :=
  { s with answers := s.answers.tail, draws := if s.answers.isEmpty then s.draws + 1 else s.draws }

/-- Fault entry (R222). -/
def State.enterFault (c : Cause) (info : UopCode) (s : State) : State :=
  { s with st := .fault, fcause := c, finfo := info, wpend := false }

/-- The event of a line operation (R11, R111 to R114). -/
def lineEvent : LineOp → Event
  | .rowDe i => .rowDeassert i
  | .rowAs i => .rowAssert i
  | .colDe i => .colDeassert i
  | .colAs i => .colAssert i

/-- The commanded line state after a line operation that succeeded (R111 to R114). -/
def State.drive (op : LineOp) (s : State) : State :=
  match op with
  | .rowDe i => { s with rowl := s.rowl &&& ~~~lineBit i }
  | .rowAs i => { s with rowl := s.rowl ||| lineBit i }
  | .colDe i => { s with coll := s.coll &&& ~~~lineBit i }
  | .colAs i => { s with coll := s.coll ||| lineBit i }

/-- Issue a line operation and go on with `k` if it succeeds (R110 to R114, R118); on failure HardwareFault with the
operation's code, the commanded bit unchanged (R216, R222). The event is appended either way (R110).
DESIGN CHOICE (log 26): neither `WPEND` nor `ST` is tested. R110 has it issued by its own step only and never while
`WPEND = 1`, and the machine's steps keep to that. -/
def State.issueLine (op : LineOp) (k : State → State) (s : State) : State :=
  if s.lineAnswer then (s.record (lineEvent op)).answered.enterFault .hardwareFault (lineCode op)
  else k ((s.record (lineEvent op)).answered.drive op)

/-- Issue `WAIT.US n` (R115). DESIGN CHOICE: neither `WPEND` nor `ST` is tested, as in `State.issueLine` (log 26), and `n`
is not kept for `dly_val` (log 27). -/
def State.issueWait (n : Word) (s : State) : State := { s.record (.waitUs n) with wpend := true }

/-- Completion of the dark wait (R153). -/
def State.completeDark (s : State) : State := { s with wpend := false, st := .done }

/-- Completion of a pulse wait (R158). -/
def State.completePulse (s : State) : State := { s with wpend := false, st := .colOff }

/-- The delay source's completion step (R119): it clears `WPEND` and moves `ST` on as the issuing state's rule says;
no rule moves `ST` on from another state (log 11). -/
def State.completeWait (s : State) : State :=
  match s.st with
  | .dark => s.completeDark
  | .pulse => s.completePulse
  | _ => { s with wpend := false }

/-- While `WPEND = 1` the block has no enabled step of its own (R119, R150; log 11). -/
def State.whenFree (body : State → State) (s : State) : State := if s.wpend then s else body s

/-- A host write has an effect only in `S_IDLE`; otherwise it is discarded whole (R197). -/
def State.whenIdle (body : State → State) (s : State) : State := if s.st = .idle then body s else s

/-- Reset (R240): every piece of state at its reset value, a new trace; the pattern store and the other agents' turns
and answers are untouched (log 21). -/
def State.resetBlock (s : State) : State :=
  { State.reset with mem := s.mem, turns := s.turns, answers := s.answers, draws := s.draws, ticks := s.ticks }

end Sys2Proof.Machine
end

