-- ==== Sys2Proof/Machine/Normalizer.lean ====
section
/-! DEFINITION. The duty-cycle normalizer (spec/41_normalizer.md): its four functions (R130 to R133) and the step
S_NORM (R135). -/

namespace Sys2Proof.Machine

/-- `popcount16(f)` as a number: the number of lit cells (R130). -/
def litNat (f : FrameWord) : Nat := ((List.range 16).map fun i => (f.getLsbD i).toNat).sum

/-- `litcount(f)`, 5 bits, 0 to 16 (R130). -/
def litcount (f : FrameWord) : BitVec 5 := BitVec.ofNat 5 (litNat f)

/-- `passdur(m, l)`: the product, exact in 36 bits for `l ≤ 16` (R131). -/
def passdur (m : Word) (l : BitVec 5) : BitVec 36 := BitVec.ofNat 36 (m.toNat * l.toNat)

/-- `passcnt(t, d)`: the floor quotient (R132), free for `d = 0`, which R132 leaves undefined (log 9). -/
def passcnt (t : Word) (d : BitVec 36) : Word :=
  if d = 0 then Config.passcntByZero t else BitVec.ofNat 32 (t.toNat / d.toNat)

/-- `budget(fps)`: the floor quotient (R133), free for `fps = 0`, which R133 leaves undefined (log 9). -/
def budget (fps : Word) : Word :=
  if fps = 0 then Config.budgetByZero else BitVec.ofNat 32 (usPerSecond / fps.toNat)

/-- `PDUR` as S_NORM writes it: 0 for a dark frame (R28, R135). -/
def normPdur (f : FrameWord) (m : Word) : BitVec 36 :=
  if litcount f = 0 then 0 else passdur m (litcount f)

/-- `PCNT` as S_NORM writes it: 0 for a dark frame (R29, R135). -/
def normPcnt (f : FrameWord) (t m : Word) : Word :=
  if litcount f = 0 then 0 else passcnt t (passdur m (litcount f))

/-- Where S_NORM goes: the dark wait, the immediate return or the first pass (R135). -/
def normNext (f : FrameWord) (t m : Word) : St :=
  if litcount f = 0 then .dark else if normPcnt f t m = 0 then .done else .rowEn

/-- The writes of S_NORM (R135). -/
def State.normalize (s : State) : State :=
  { s with lit := litcount s.frame, pdur := normPdur s.frame s.minp, pcnt := normPcnt s.frame s.total s.minp,
           pass := 0, row := 0, col := 0, st := normNext s.frame s.total s.minp }

/-- S_NORM with its hold while a wait is pending (R135, R150). -/
def State.normStep (s : State) : State := s.whenFree State.normalize

/-- S_NORM (R135). -/
def execSNorm (s : State) : Host.Outcome State Fault Refusal := .next s.normStep

end Sys2Proof.Machine
end

