-- ==== Sys2Proof/Machine/Scan.lean ====
section
/-! DEFINITION. The steps of the scan FSM (spec/42_scan_fsm.md R150 to R160), and S_FAULT, which has no step
(spec/60_exceptions.md R225). Each `…Step` is the state change of one row, held while a wait is pending (R150). -/

namespace Sys2Proof.Machine

/-- S_DARK (R152), or with a wait pending its completion (R153). -/
def State.darkStep (s : State) : State := if s.wpend then s.completeDark else s.issueWait s.total

/-- S_ROW_EN (R154). -/
def State.rowEnStep (s : State) : State :=
  s.whenFree fun s => s.issueLine (.rowAs s.row) fun t => { t with col := 0, st := .cell }

/-- S_CELL (R155). -/
def State.cellStep (s : State) : State :=
  s.whenFree fun s =>
    if cellLit s.frame s.row s.col then { s with st := .colOn }
    else if s.col = 3 then { s with st := .rowDis }
    else { s with col := s.col + 1 }

/-- S_COL_ON (R156). -/
def State.colOnStep (s : State) : State :=
  s.whenFree fun s => s.issueLine (.colAs s.col) fun t => { t with st := .pulse }

/-- S_PULSE (R157), or with a wait pending its completion (R158). -/
def State.pulseStep (s : State) : State := if s.wpend then s.completePulse else s.issueWait s.minp

/-- Past a column that has been examined: the next cell, or the end of the row (R159). -/
def State.nextColumn (s : State) : State :=
  if s.col = 3 then { s with st := .rowDis } else { s with col := s.col + 1, st := .cell }

/-- S_COL_OFF (R159). -/
def State.colOffStep (s : State) : State := s.whenFree fun s => s.issueLine (.colDe s.col) State.nextColumn

/-- Past a row that has been disabled: the next row, or the pass is counted; the render ends when `PASS + 1 = PCNT`
(R160). -/
def State.nextRow (s : State) : State :=
  if s.row = 3 then
    if s.pass.toNat + 1 = s.pcnt.toNat then { s with pass := passSucc s.pass, st := .done }
    else { s with pass := passSucc s.pass, row := 0, st := .rowEn }
  else { s with row := s.row + 1, st := .rowEn }

/-- S_ROW_DIS (R160). -/
def State.rowDisStep (s : State) : State := s.whenFree fun s => s.issueLine (.rowDe s.row) State.nextRow

/-- S_IDLE (R151): the block has no step of its own; nothing changes (log 17). -/
def execSIdle (s : State) : Host.Outcome State Fault Refusal := .next s

/-- S_DARK (R152, R153). -/
def execSDark (s : State) : Host.Outcome State Fault Refusal := .next s.darkStep

/-- S_ROW_EN (R154). -/
def execSRowEn (s : State) : Host.Outcome State Fault Refusal := .next s.rowEnStep

/-- S_CELL (R155). -/
def execSCell (s : State) : Host.Outcome State Fault Refusal := .next s.cellStep

/-- S_COL_ON (R156). -/
def execSColOn (s : State) : Host.Outcome State Fault Refusal := .next s.colOnStep

/-- S_PULSE (R157, R158). -/
def execSPulse (s : State) : Host.Outcome State Fault Refusal := .next s.pulseStep

/-- S_COL_OFF (R159). -/
def execSColOff (s : State) : Host.Outcome State Fault Refusal := .next s.colOffStep

/-- S_ROW_DIS (R160). -/
def execSRowDis (s : State) : Host.Outcome State Fault Refusal := .next s.rowDisStep

/-- S_FAULT (R225): no step, left only by reset; nothing changes (log 17). -/
def execSFault (s : State) : Host.Outcome State Fault Refusal := .next s

end Sys2Proof.Machine
end

