-- ==== Sys2Proof/Machine/Frames.lean ====
section
/-! DEFINITION. The frame words as instructions (spec/43_sequencer.md R182, R183): executing one is the whole render,
from `S_NORM` to `S_DONE`, or to `S_FAULT` where a line operation fails (log 8). It is the FSM's own steps and the
completions of their waits, in the order R150 enables them; a step of the machine takes one of them (R3). -/

namespace Sys2Proof.Machine

/-- The one enabled step of a render (R150): a completion while a wait is pending, else the step `ST` selects. The
states outside a render have none here. -/
def State.renderStep (s : State) : State :=
  if s.wpend then s.completeWait
  else
    match s.st with
    | .idle => s
    | .fetch => s
    | .norm => s.normStep
    | .dark => s.darkStep
    | .rowEn => s.rowEnStep
    | .cell => s.cellStep
    | .colOn => s.colOnStep
    | .pulse => s.pulseStep
    | .colOff => s.colOffStep
    | .rowDis => s.rowDisStep
    | .done => s
    | .fault => s

/-- The render has ended (R161, R225). -/
def State.renderOver (s : State) : Bool := s.st == .done || s.st == .fault

/-- At most `k` enabled steps of a render, up to its end. -/
def State.renderSteps : Nat → State → State
  | 0, s => s
  | k + 1, s => if s.renderOver then s else State.renderSteps k s.renderStep

/-- Enough steps for every render (R167): one pass has `24 + 4*LIT ≤ 88` steps; S_NORM, the two halves of a dark wait
and the completion of a wait that is already pending are 4 more. -/
def renderBound (f : FrameWord) (t m : Word) : Nat := 4 + 88 * (normPcnt f t m).toNat

/-- The render of the frame word `f` (R182, R183): `f` stands in `FRAME`, the block in `S_NORM`. -/
def State.runFrame (f : FrameWord) (s : State) : State :=
  State.renderSteps (renderBound f s.total s.minp) { s with frame := f, st := .norm }

/-- FRAME.DARK (R182). -/
def execFrameDark (s : State) : Host.Outcome State Fault Refusal := .next (s.runFrame 0)

/-- FRAME.LIT (R183). -/
def execFrameLit (cells : FrameWord) (s : State) : Host.Outcome State Fault Refusal := .next (s.runFrame cells)

end Sys2Proof.Machine
end

