-- ==== Sys2Proof/Machine/HostPort.lean ====
section
/-! DEFINITION. The host port (spec/44_host_commands.md): CSR reads (R196), CSR writes (R197 to R199) and the four
commands (R200 to R203). A command is a write of `CTRL`, taken in `S_IDLE` and discarded elsewhere (R197; log 16). -/

namespace Sys2Proof.Machine

/-- What the command clears on being taken (R201 to R203). -/
def State.clearDone (s : State) : State := { s with done := false }

/-- RENDER accepted (R201). -/
def State.startRender (s : State) : State := { s with mode := .oneShot, st := .norm }

/-- PLAY accepted (R202). -/
def State.startPlay (s : State) : State := { s with mode := .play, fp := 0, st := .fetch }

/-- RENDER, taken (R201). -/
def State.takeRender (s : State) : State :=
  if s.minp = 0 then s.clearDone.enterFault .zeroPulse 0 else s.clearDone.startRender

/-- PLAY, taken (R202): the checks in ascending order of cause code (R224); `BASE + LEN` is formed in 17 bits. -/
def State.takePlay (s : State) : State :=
  if s.minp = 0 then s.clearDone.enterFault .zeroPulse 0
  else if s.fps = 0 then s.clearDone.enterFault .zeroFps 0
  else if s.len = 0 then s.clearDone.enterFault .emptySequence 0
  else if s.mem.depth < s.base.toNat + s.len.toNat then s.clearDone.enterFault .badRange 0
  else s.clearDone.startPlay

/-- CMD.RSVD, taken (R203). -/
def State.takeReserved (s : State) : State := s.clearDone.enterFault .badCommand 0

/-- A command, taken (R200 to R203). -/
def State.takeCommand (c : Cmd) (s : State) : State :=
  match c with
  | .nop => s
  | .render => s.takeRender
  | .play => s.takePlay
  | .rsvd => s.takeReserved

/-- A write taken in `S_IDLE`: index 0 is a command, the others a parameter or nothing (R197 to R199). -/
def State.takeWrite (idx : CsrIdx) (data : Word) (s : State) : State :=
  if idx = 0 then s.takeCommand (cmdOf data) else parameterWrite idx data s

/-- CSR.RD (R196): the value goes to `csr_rdata`; nothing else changes. -/
def execCsrRd (idx : CsrIdx) (s : State) : Host.Outcome State Fault Refusal := .next { s with csrRdata := csrValue idx s }

/-- CSR.WR (R197 to R199). -/
def execCsrWr (idx : CsrIdx) (data : Word) (s : State) : Host.Outcome State Fault Refusal :=
  .next (s.whenIdle (State.takeWrite idx data))

/-- NOP (R200). -/
def execNop (s : State) : Host.Outcome State Fault Refusal := .next s

/-- RENDER (R201). -/
def execRender (s : State) : Host.Outcome State Fault Refusal := .next (s.whenIdle State.takeRender)

/-- PLAY (R202). -/
def execPlay (s : State) : Host.Outcome State Fault Refusal := .next (s.whenIdle State.takePlay)

/-- CMD.RSVD (R203). -/
def execCmdRsvd (s : State) : Host.Outcome State Fault Refusal := .next (s.whenIdle State.takeReserved)

end Sys2Proof.Machine
end

