-- ==== Sys2Proof/Machine/MicroOps.lean ====
section
/-! DEFINITION. The micro-operations as instructions (spec/40_micro_ops.md R111 to R119). -/

namespace Sys2Proof.Machine

/-- ROW.DE (R112). -/
def execRowDe (idx : LineIdx) (s : State) : Host.Outcome State Fault Refusal := .next (s.issueLine (.rowDe idx) id)

/-- ROW.AS (R111). -/
def execRowAs (idx : LineIdx) (s : State) : Host.Outcome State Fault Refusal := .next (s.issueLine (.rowAs idx) id)

/-- COL.DE (R114). -/
def execColDe (idx : LineIdx) (s : State) : Host.Outcome State Fault Refusal := .next (s.issueLine (.colDe idx) id)

/-- COL.AS (R113). -/
def execColAs (idx : LineIdx) (s : State) : Host.Outcome State Fault Refusal := .next (s.issueLine (.colAs idx) id)

/-- WAIT.US (R115): the wait is issued; the delay source completes it in a step of its own (R119). -/
def execWaitUs (micros : Word) (s : State) : Host.Outcome State Fault Refusal := .next (s.issueWait micros)

/-- `1000 * n` for a 16-bit `n`, exact in 32 bits (R116). -/
def millisToMicros (n : BitVec 16) : Word := BitVec.ofNat 32 (1000 * n.toNat)

/-- WAIT.MS: its meaning is that of `WAIT.US (1000 * n)` (R116; log 13). -/
def execWaitMs (millis : BitVec 16) (s : State) : Host.Outcome State Fault Refusal :=
  .next (s.issueWait (millisToMicros millis))

end Sys2Proof.Machine
end

