-- ==== Sys2Proof/Machine/Sequencer.lean ====
section
/-! DEFINITION. The frame-to-drive sequencer (spec/43_sequencer.md): S_FETCH (R181) and S_DONE, the return of a
one-shot render (spec/42_scan_fsm.md R161) or the advance of a PLAY (R184). -/

namespace Sys2Proof.Machine

/-- The word address of the frame to fetch, formed in 17 bits (R62, R181). -/
def State.fetchAddr (s : State) : Nat := s.base.toNat + s.fp.toNat

/-- The writes of S_FETCH for a word of the store (R181). -/
def State.fetched (w : FrameWord) (s : State) : State :=
  { s with frame := w, total := budget s.fps, st := .norm }

/-- S_FETCH (R181). An address outside the store, which R62 says is never fetched, faults (log 18). -/
def execSFetch (s : State) : Host.Outcome State Fault Refusal :=
  if s.wpend then .next s
  else
    match memRead s.mem s.fetchAddr with
    | some w => .next (s.fetched w)
    | none => .fault (.outsideStore s.fetchAddr)

/-- The return of a one-shot render (R161). -/
def State.returnOneShot (s : State) : State := { s with done := true, st := .idle }

/-- The advance of a PLAY to its next frame (R184). -/
def State.advanceFrame (s : State) : State := { s with fp := fpNext s.fp s.len, st := .fetch }

/-- S_DONE (R161, R184). -/
def State.doneStep (s : State) : State :=
  s.whenFree fun s =>
    match s.mode with
    | .oneShot => s.returnOneShot
    | .play => s.advanceFrame

/-- S_DONE (R161, R184). -/
def execSDone (s : State) : Host.Outcome State Fault Refusal := .next s.doneStep

end Sys2Proof.Machine
end

