-- ==== Sys2Proof/Machine/Dispatch.lean ====
section
/-! DEFINITION. The dispatch: one arm per row of spec/opcode_table.json. -/

namespace Sys2Proof.Machine

def exec (i : Instr) (s : State) : Host.Outcome State Fault Refusal :=
  match i with
  -- frame words (43_sequencer.md R182, R183)
  | .frameDark => Sys2Proof.Machine.execFrameDark s
  | .frameLit cells => Sys2Proof.Machine.execFrameLit cells s
  -- host accesses and commands (44_host_commands.md R196 to R203)
  | .csrRd idx => Sys2Proof.Machine.execCsrRd idx s
  | .csrWr idx data => Sys2Proof.Machine.execCsrWr idx data s
  | .nop => Sys2Proof.Machine.execNop s
  | .render => Sys2Proof.Machine.execRender s
  | .play => Sys2Proof.Machine.execPlay s
  | .cmdRsvd => Sys2Proof.Machine.execCmdRsvd s
  -- micro-operations (40_micro_ops.md R111 to R116)
  | .rowDe idx => Sys2Proof.Machine.execRowDe idx s
  | .rowAs idx => Sys2Proof.Machine.execRowAs idx s
  | .colDe idx => Sys2Proof.Machine.execColDe idx s
  | .colAs idx => Sys2Proof.Machine.execColAs idx s
  | .waitUs micros => Sys2Proof.Machine.execWaitUs micros s
  | .waitMs millis => Sys2Proof.Machine.execWaitMs millis s
  -- steps (41_normalizer.md R135, 42_scan_fsm.md R151 to R161, 43_sequencer.md R181 and R184, 60_exceptions.md R225)
  | .sIdle => Sys2Proof.Machine.execSIdle s
  | .sFetch => Sys2Proof.Machine.execSFetch s
  | .sNorm => Sys2Proof.Machine.execSNorm s
  | .sDark => Sys2Proof.Machine.execSDark s
  | .sRowEn => Sys2Proof.Machine.execSRowEn s
  | .sCell => Sys2Proof.Machine.execSCell s
  | .sColOn => Sys2Proof.Machine.execSColOn s
  | .sPulse => Sys2Proof.Machine.execSPulse s
  | .sColOff => Sys2Proof.Machine.execSColOff s
  | .sRowDis => Sys2Proof.Machine.execSRowDis s
  | .sDone => Sys2Proof.Machine.execSDone s
  | .sFault => Sys2Proof.Machine.execSFault s

end Sys2Proof.Machine
end

