-- ==== Sys2Proof/Machine/Turns.lean ====
section
/-! DEFINITION. The turns of the agents (spec/00_scope.md R10, spec/42_scan_fsm.md R150): which instruction a turn
runs, and where the host's harness puts an instruction so that the next turn runs it. -/

namespace Sys2Proof.Machine

/-- The turn that comes next: the first listed one, free where the list has ended (log 3). -/
def State.nextTurn (s : State) : Turn := s.turns.headD (Config.turn s.ticks)

/-- The state with that turn taken off the list (log 3, 5). -/
def State.turnTaken (s : State) : State := { s with turns := s.turns.tail, ticks := s.ticks + 1 }

/-- Run what a decoder answered. -/
def runDecoded (d : Except Reject Instr) (s : State) : Host.Outcome State Fault Refusal :=
  match d with
  | .ok i => exec i s
  | .error _ => .refused .noSuchOperation

/-- The block's turn: the step `ST` selects, if no wait holds the block (R93, R150). -/
def blockTurn (s : State) : Host.Outcome State Fault Refusal :=
  if s.wpend then .next s else runDecoded (decodeStep (stCode s.st)) s

/-- The delay source's turn: it completes the pending wait; with none pending its signal is ignored (R119, R241). -/
def delayTurn (s : State) : Host.Outcome State Fault Refusal :=
  if s.wpend then .next s.completeWait else .next s

/-- One turn of one agent (R10). -/
def takeTurn (t : Turn) (s : State) : Host.Outcome State Fault Refusal :=
  match t with
  | .block => blockTurn s
  | .delay => delayTurn s
  | .host w => exec (decodeAccess w) s
  | .reset => .next s.resetBlock

/-- The state with `t` as the next turn. -/
def State.withTurn (t : Turn) (s : State) : State := { s with turns := t :: s.turns }

/-- The state whose next block turn runs the step of `st`. -/
def State.placeStep (st : St) (s : State) : State := { s with st := st, wpend := false }.withTurn .block

/-- The state whose next turn runs an instruction: a host access as the host's turn; a command as the write of `CTRL`
that carries its word; a frame word in `FRAME` with the block in `S_NORM`, whose step is the first of its execution
(R182, R183; log 8); a step by its `ST`; a micro-operation in the step that issues it, its operand in the register that
step reads (R80; log 20). No step issues WAIT.MS (R116), so for it nothing is placed. -/
def State.place (i : Instr) (w : Nat) (s : State) : State :=
  match i with
  | .frameDark => { s with frame := 0 }.placeStep .norm
  | .frameLit cells => { s with frame := cells }.placeStep .norm
  | .csrRd _ => s.withTurn (.host (BitVec.ofNat 37 w))
  | .csrWr _ _ => s.withTurn (.host (BitVec.ofNat 37 w))
  | .nop => s.withTurn (.host (1#1 ++ 0#4 ++ BitVec.ofNat 32 w))
  | .render => s.withTurn (.host (1#1 ++ 0#4 ++ BitVec.ofNat 32 w))
  | .play => s.withTurn (.host (1#1 ++ 0#4 ++ BitVec.ofNat 32 w))
  | .cmdRsvd => s.withTurn (.host (1#1 ++ 0#4 ++ BitVec.ofNat 32 w))
  | .rowDe idx => { s with row := idx }.placeStep .rowDis
  | .rowAs idx => { s with row := idx }.placeStep .rowEn
  | .colDe idx => { s with col := idx }.placeStep .colOff
  | .colAs idx => { s with col := idx }.placeStep .colOn
  | .waitUs n => { s with total := n }.placeStep .dark
  | .waitMs _ => s
  | .sIdle => s.placeStep .idle
  | .sFetch => s.placeStep .fetch
  | .sNorm => s.placeStep .norm
  | .sDark => s.placeStep .dark
  | .sRowEn => s.placeStep .rowEn
  | .sCell => s.placeStep .cell
  | .sColOn => s.placeStep .colOn
  | .sPulse => s.placeStep .pulse
  | .sColOff => s.placeStep .colOff
  | .sRowDis => s.placeStep .rowDis
  | .sDone => s.placeStep .done
  | .sFault => s.placeStep .fault

/-- The state whose next turn runs the instruction that `decodeTableWord` reads; a word it refuses places nothing. -/
def State.placeWord (nbits w : Nat) (s : State) : State :=
  match decodeTableWord nbits w with
  | some i => s.place i w
  | none => s

end Sys2Proof.Machine
end

