-- ==== Sys2Proof/Machine/Step.lean ====
section
/-! DEFINITION. One step of the machine: the next turn of one agent (spec/00_scope.md R3, R10). -/

namespace Sys2Proof.Machine

/-- One step: the next turn, taken atomically (R3, R10; log 3). -/
def step (s : State) : Host.Outcome State Fault Refusal := takeTurn s.nextTurn s.turnTaken

/-- The state whose next step runs the instruction with the table word `w` (log 20). -/
def State.withFetchWord (s : State) (nbits w : Nat) : State := s.placeWord nbits w

end Sys2Proof.Machine
end

