-- ==== Sys2Proof/Machine/Pins.lean ====
section
/-! DEFINITION. The output pins as functions of the state (spec/40_micro_ops.md R120, R121, spec/44_host_commands.md
R195). The polarity of the lines appears here and nowhere else (R121). -/

namespace Sys2Proof.Machine

/-- The line operation recorded by a HardwareFault is one on a row line (`column` = 0) or a column line (`column` = 1)
with index `i`: that pin's level is any value until reset (R216, U3; log 19). -/
def State.pinFailed (s : State) (column : Bool) (i : LineIdx) : Bool :=
  s.fcause == .hardwareFault && s.finfo.getLsbD 3 == column && s.finfo.extractLsb' 0 2 == i

/-- Pin `row_n[i]`: low while the row is enabled (R120). -/
def State.rowPin (s : State) (i : LineIdx) : Bool :=
  if s.pinFailed false i then Config.failedPin s.ticks else !s.rowl.getLsbD i.toNat

/-- Pin `col[i]`: high while the column is asserted (R120). -/
def State.colPin (s : State) (i : LineIdx) : Bool :=
  if s.pinFailed true i then Config.failedPin s.ticks else s.coll.getLsbD i.toNat

/-- The LED at (`r`, `c`) is commanded on (R38). -/
def State.ledOn (s : State) (r c : LineIdx) : Bool := s.rowl.getLsbD r.toNat && s.coll.getLsbD c.toNat

/-- Pin `dly_req` (R120). -/
def State.dlyReq (s : State) : Bool := s.wpend

/-- Pin `dly_unit`: microseconds always (R120). -/
def State.dlyUnit (_s : State) : Bool := false

/-- Pin `dly_val`: the argument of the pending wait, `TOTAL` in `S_DARK` and `MINP` in `S_PULSE` (R120), free while none
of the FSM's waits is pending (log 19). DESIGN CHOICE (log 27): so it is after a wait executed by itself, whatever its
argument. -/
def State.dlyVal (s : State) : Word :=
  if s.wpend ∧ s.st = .dark then s.total else if s.wpend ∧ s.st = .pulse then s.minp else Config.idleDlyVal s.ticks

/-- Pin `pat_addr`: the address of the fetch (R62), free in every state but S_FETCH (log 19). DESIGN CHOICE (log 28):
`BASE + FP` is driven in S_FETCH also while `WPEND = 1` holds the fetch, and its low 16 bits where it needs 17. -/
def State.patAddr (s : State) : BitVec 16 :=
  if s.st = .fetch then BitVec.ofNat 16 s.fetchAddr else Config.idlePatAddr s.ticks

/-- Pin `pat_data`: the store's answer to `pat_addr` as it is driven (R62, R195), no word where that address is outside
the store. DESIGN CHOICE (log 28): for a `BASE + FP` of 17 bits it answers the wrapped address, while the fetch faults. -/
def State.patData (s : State) : Option FrameWord := memRead s.mem s.patAddr.toNat

end Sys2Proof.Machine
end

