-- ==== Sys2Proof/Safety.lean ====
section
/-! DEFINITION. The terms the statements use: the closed form of a render's trace (spec/42_scan_fsm.md R165), what
each agent can change, and the invariants of the reachable states (R166, R35, R41, R42, R138). -/

namespace Sys2Proof.Machine

/-- `cell(f, r, c, m)` of R165. -/
def cellOps (f : FrameWord) (m : Word) (r c : LineIdx) : List Event :=
  if cellLit f r c then [.colAssert c, .waitUs m, .colDeassert c] else []

/-- `row(f, r, m)` of R165. -/
def rowOps (f : FrameWord) (m : Word) (r : LineIdx) : List Event :=
  [.rowAssert r] ++ cellOps f m r 0 ++ cellOps f m r 1 ++ cellOps f m r 2 ++ cellOps f m r 3 ++ [.rowDeassert r]

/-- `pass(f, m)` of R165. -/
def passOps (f : FrameWord) (m : Word) : List Event :=
  rowOps f m 0 ++ rowOps f m 1 ++ rowOps f m 2 ++ rowOps f m 3

/-- `ops(f, t, m)` of R165. -/
def renderOps (f : FrameWord) (t m : Word) : List Event :=
  if litNat f = 0 then [.waitUs t]
  else (List.replicate (t.toNat / (m.toNat * litNat f)) (passOps f m)).flatten

/-- The number of line operations of a render: `8 + 2*l` in each of its passes, none for a dark frame (R167). -/
def lineOpCount (f : FrameWord) (t m : Word) : Nat :=
  if litNat f = 0 then 0 else t.toNat / (m.toNat * litNat f) * (8 + 2 * litNat f)

/-- The requested duration of an event in microseconds (R12, R116): only waits take nominal time. -/
def eventMicros : Event → Nat
  | .waitUs n => n.toNat
  | .waitMs n => 1000 * n.toNat
  | .rowAssert _ => 0
  | .rowDeassert _ => 0
  | .colAssert _ => 0
  | .colDeassert _ => 0

/-- The nominal time of a trace (R12, R252). -/
def nominalMicros (es : List Event) : Nat := (es.map eventMicros).sum

/-- The event of a line operation, not of a wait (R11, R88). -/
def isLineEvent : Event → Bool
  | .rowAssert _ | .rowDeassert _ | .colAssert _ | .colDeassert _ => true
  | .waitUs _ | .waitMs _ => false

/-- The row lines after an operation that succeeded (R36, R111, R112). -/
def rowsStep (l : Lines) : Event → Lines
  | .rowAssert i => l ||| lineBit i
  | .rowDeassert i => l &&& ~~~lineBit i
  | .colAssert _ | .colDeassert _ | .waitUs _ | .waitMs _ => l

/-- The column lines after an operation that succeeded (R37, R113, R114). -/
def colsStep (l : Lines) : Event → Lines
  | .colAssert i => l ||| lineBit i
  | .colDeassert i => l &&& ~~~lineBit i
  | .rowAssert _ | .rowDeassert _ | .waitUs _ | .waitMs _ => l

/-- At most one bit is set: no two lines of a bank are asserted (R166). -/
def atMostOne (l : Lines) : Prop := ∀ i j : LineIdx, l.getLsbD i.toNat = true → l.getLsbD j.toNat = true → i = j

/-- A state in which a render is under way past S_NORM, or has just ended (R150). -/
def pastNorm (st : St) : Bool :=
  match st with
  | .dark | .rowEn | .cell | .colOn | .pulse | .colOff | .rowDis | .done => true
  | .idle | .fetch | .norm | .fault => false

/-- A state of a scan pass (R154 to R160). -/
def scanning (st : St) : Bool :=
  match st with
  | .rowEn | .cell | .colOn | .pulse | .colOff | .rowDis => true
  | .idle | .fetch | .norm | .dark | .done | .fault => false

/-- The commanded lines in each state of the FSM (R166): nothing asserted outside a row; exactly row `ROW` inside one; a
column only on a lit cell, and exactly column `COL` between its assertion and its deassertion; after a fault, whatever the failing
operation found. -/
def LinesInv (s : State) : Prop :=
  match s.st with
  | .cell | .rowDis => s.rowl = lineBit s.row ∧ s.coll = 0
  | .colOn => s.rowl = lineBit s.row ∧ s.coll = 0 ∧ cellLit s.frame s.row s.col = true
  | .pulse | .colOff => s.rowl = lineBit s.row ∧ s.coll = lineBit s.col ∧ cellLit s.frame s.row s.col = true
  | .fault =>
    (s.rowl = 0 ∧ s.coll = 0) ∨ (s.rowl = lineBit s.row ∧ s.coll = 0) ∨
      (s.rowl = lineBit s.row ∧ s.coll = lineBit s.col ∧ cellLit s.frame s.row s.col = true)
  | .idle | .fetch | .norm | .dark | .rowEn | .done => s.rowl = 0 ∧ s.coll = 0

/-- What the block, the host and the delay source keep true from reset on, whatever the drive lines answer. -/
structure Invariant (s : State) : Prop where
  /-- the pattern store keeps its canonical form (R61; log 2) -/
  memory : s.mem.wf = true
  /-- a wait is pending in S_DARK and S_PULSE only (R41, R150) -/
  wait : s.wpend = true → s.st = .dark ∨ s.st = .pulse
  /-- a fault is recorded exactly in S_FAULT (R42, R225) -/
  cause : s.fcause ≠ .none ↔ s.st = .fault
  /-- `FINFO` is a line operation's code for a HardwareFault and 0 otherwise (R42, R90) -/
  info : s.finfo = 0 ∨ (s.fcause = .hardwareFault ∧ s.finfo.toNat < 16)
  /-- `DONE` is seen in S_IDLE only: a command clears it, S_DONE of a one-shot render sets it (R39) -/
  doneFlag : s.done = true → s.st = .idle
  /-- a running block has a pulse width (R138, R217) -/
  pulseWidth : s.busy = true → s.minp ≠ 0
  /-- a running PLAY has a rate, and a sequence that lies in the store, with `FP` inside it (R32, R62, R138) -/
  sequence : s.busy = true → s.mode = .play →
    s.fps ≠ 0 ∧ s.base.toNat + s.len.toNat ≤ s.mem.depth ∧ s.fp.toNat < s.len.toNat
  /-- only a PLAY fetches (R33) -/
  fetching : s.st = .fetch → s.mode = .play
  /-- the normalizer's results stand from S_NORM to the end of the render (R27 to R29) -/
  normalized : pastNorm s.st = true →
    s.lit = litcount s.frame ∧ s.pdur = normPdur s.frame s.minp ∧ s.pcnt = normPcnt s.frame s.total s.minp
  /-- S_DARK belongs to a dark frame, which has no pass (R135) -/
  dark : s.st = .dark → s.frame = 0 ∧ s.pass = 0
  /-- a scan pass belongs to a lit frame and is one of those still to be made (R30) -/
  passes : scanning s.st = true → s.frame ≠ 0 ∧ s.pass.toNat < s.pcnt.toNat
  /-- at the end of a render all its passes have been made (R161) -/
  complete : s.st = .done → s.pass = s.pcnt
  /-- the commanded lines (R166) -/
  lines : LinesInv s

/-- The events of one step of the block: at most one (R110). -/
def addsAtMostOneEvent (s t : State) : Prop := t.trace = s.trace ∨ ∃ e, t.trace = s.trace ++ [e]

/-- Everything the block, its parameters and its history hold is the same in both states: what the host's read and the
model's own fields hold may differ. -/
def sameBlock (s t : State) : Prop :=
  t = { s with csrRdata := t.csrRdata, turns := t.turns, answers := t.answers, draws := t.draws, ticks := t.ticks }

/-- The turns listed are the block's and the delay source's: a run that the host does not disturb (R10). -/
def undisturbed (ts : List Turn) : Prop := ∀ t ∈ ts, t = .block ∨ t = .delay

end Sys2Proof.Machine
end

