-- ==== Sys2Proof/Certificates/Slice0/Obligations.lean ====
section
/-! DEFINITION. The statements for the provers. A statement that writes a whole next state `{ s with … }` says the
frame with it: every field not named (registers, flags, the pattern store, the trace) is as before. `s.answered` is `s`
with one answer of the drive lines taken, nothing else changed. -/

open Sys2Proof Sys2Proof.Machine

/-! ### Encodings -/

/-- R81, R85, R86, R88, R93: every instruction, with every operand its encoding admits, is read back from its word. -/
def Obligations.DecodeOfEncodeIsIdentity : Prop :=
  ∀ i : Instr, i.wf = true → decode (formatOf i) (encode i) = .ok i

/-- R80, R83: a decoder answers instructions of its own format only, each of them well formed. -/
def Obligations.DecodedInstructionIsWellFormed : Prop :=
  ∀ (f : Format) (n : Nat) (i : Instr), decode f n = .ok i → i.wf = true ∧ formatOf i = f

/-- R83, R84: every frame word is one of the two frame instructions. -/
def Obligations.EveryFrameWordIsLegal : Prop :=
  ∀ w : FrameWord, ∃ i, decode .frame w.toNat = .ok i ∧ i.wf = true ∧
    (w = 0 → i = .frameDark) ∧ (w ≠ 0 → i = .frameLit w)

/-- R86, R88: bits 31:2 of a command and the argument of a line operation are ignored; all 32 data bits of a read
are. -/
def Obligations.IgnoredBitsDoNotMatter : Prop :=
  (∀ a b : Word, a.extractLsb' 0 2 = b.extractLsb' 0 2 → decodeCmd a = decodeCmd b) ∧
  (∀ (c : UopCode) (a b : Word), c.getLsbD 4 = false → decodeUop c a = decodeUop c b) ∧
  (∀ (x : CsrIdx) (a b : Word), decodeAccess (0#1 ++ x ++ a) = decodeAccess (0#1 ++ x ++ b))

/-- R92, R162, U7b, U7c: exactly the reserved codes are rejected, by name. -/
def Obligations.ReservedCodesAreRejected : Prop :=
  (∀ (c : UopCode) (a : Word), decodeUop c a = .error (.reservedUop c) ↔
    (0x11 ≤ c.toNat ∧ c.toNat ≤ 0x17) ∨ 0x19 ≤ c.toNat) ∧
  (∀ c : BitVec 4, decodeStep c = .error (.reservedStep c) ↔ 11 ≤ c.toNat ∧ c.toNat ≤ 14) ∧
  (∀ st : St, ∃ i, decodeStep (stCode st) = .ok i)

/-- Words written out from R81, R85, R86, R89, R93 and 95_test_vectors.md P1 decode to what they stand for. -/
def Obligations.WordsOfTheSpecDecode : Prop :=
  decode .frame 0x0040 = .ok (.frameLit 0x0040) ∧ decode .access 0x1200000660 = .ok (.csrWr 2 0x0660) ∧
  decode .access 0x0100000000 = .ok (.csrRd 1) ∧ decode .cmd 2 = .ok .play ∧ decode .uop 0x0E = .ok (.colAs 2) ∧
  decode .uop 0x05 = .ok (.rowAs 1) ∧ decode .step 10 = .ok .sDone

/-! ### Steps and turns -/

/-- R80, R85, R93: a block turn runs the instruction `ST` decodes to, a host turn the instruction its access word
decodes to; around it a step only takes the turn off the list and counts (log 3). A write of `CTRL` is the command its
data decodes to (R86); outside S_IDLE, where R197 discards the write, that the bare command changes nothing as well is
the model's choice (log 16). A frame word takes many steps, which `FrameWordIsARowOfSingleSteps` is about. -/
def Obligations.StepRunsTheDecodedInstruction : Prop :=
  ∀ (s : State) (rest : List Turn) (i : Instr),
    (s.turns = .block :: rest → s.wpend = false → decode .step (stCode s.st).toNat = .ok i →
      step s = exec i { s with turns := rest, ticks := s.ticks + 1 }) ∧
    (∀ w : AccessWord, s.turns = .host w :: rest → decode .access w.toNat = .ok i →
      step s = exec i { s with turns := rest, ticks := s.ticks + 1 }) ∧
    (∀ d : Word, decode .cmd d.toNat = .ok i → exec (.csrWr 0 d) s = exec i s)

/-- R119, R153, R158: the delay source's turn completes a pending wait. That a turn of an agent which R150 and R241 give
no step, the block's while a wait is pending and the delay source's with none pending, is a next state with nothing
changed is the model's choice (log 17), and so is the list of turns (log 3). -/
def Obligations.PendingWaitHoldsUntilCompleted : Prop :=
  ∀ (s : State) (rest : List Turn),
    (s.turns = .block :: rest → s.wpend = true → step s = .next { s with turns := rest, ticks := s.ticks + 1 }) ∧
    (s.turns = .delay :: rest → s.wpend = true → s.st = .dark →
      step s = .next { s with wpend := false, st := .done, turns := rest, ticks := s.ticks + 1 }) ∧
    (s.turns = .delay :: rest → s.wpend = true → s.st = .pulse →
      step s = .next { s with wpend := false, st := .colOff, turns := rest, ticks := s.ticks + 1 }) ∧
    (s.turns = .delay :: rest → s.wpend = false →
      step s = .next { s with turns := rest, ticks := s.ticks + 1 })

/-- R49: the reset values, and what the CSRs read after reset. -/
def Obligations.ResetValues : Prop :=
  State.reset.st = .idle ∧ State.reset.mode = .oneShot ∧ State.reset.frame = 0 ∧ State.reset.total = 0 ∧
  State.reset.minp = 0 ∧ State.reset.fps = 0 ∧ State.reset.base = 0 ∧ State.reset.len = 0 ∧ State.reset.lit = 0 ∧
  State.reset.pdur = 0 ∧ State.reset.pcnt = 0 ∧ State.reset.pass = 0 ∧ State.reset.row = 0 ∧ State.reset.col = 0 ∧
  State.reset.fp = 0 ∧ State.reset.rowl = 0 ∧ State.reset.coll = 0 ∧ State.reset.done = false ∧
  State.reset.wpend = false ∧ State.reset.fcause = .none ∧ State.reset.finfo = 0 ∧
  (∀ i, State.reset.rowPin i = true ∧ State.reset.colPin i = false) ∧ (∀ x, csrValue x State.reset = 0)

/-- R240, R241: reset, in any state, puts every register to its reset value and leaves the pattern store alone. What
the turn leaves of the model's own fields and of `csr_rdata` is the model's choice (log 7, 21). -/
def Obligations.ResetTurnResets : Prop :=
  ∀ (s : State) (rest : List Turn), s.turns = .reset :: rest →
    step s = .next { State.reset with
      mem := s.mem, turns := rest, answers := s.answers, draws := s.draws, ticks := s.ticks + 1 }

/-! ### Micro-operations -/

/-- R111, R112: ROW.AS and ROW.DE, both results of the drive line. That they are issued where R110 has none
issued, with `WPEND = 1` or in another `ST` than their step's, is the model's choice (log 26). -/
def Obligations.RowLineResults : Prop :=
  ∀ (i : LineIdx) (s : State),
    (s.lineAnswer = false → exec (.rowAs i) s =
      .next { s.answered with trace := s.trace ++ [.rowAssert i], rowl := s.rowl ||| (1#4 <<< i.toNat) }) ∧
    (s.lineAnswer = true → exec (.rowAs i) s =
      .next { s.answered with trace := s.trace ++ [.rowAssert i], st := .fault, fcause := .hardwareFault,
                              finfo := 0x04#5 + i.setWidth 5, wpend := false }) ∧
    (s.lineAnswer = false → exec (.rowDe i) s =
      .next { s.answered with trace := s.trace ++ [.rowDeassert i], rowl := s.rowl &&& ~~~(1#4 <<< i.toNat) }) ∧
    (s.lineAnswer = true → exec (.rowDe i) s =
      .next { s.answered with trace := s.trace ++ [.rowDeassert i], st := .fault, fcause := .hardwareFault,
                              finfo := 0x00#5 + i.setWidth 5, wpend := false })

/-- R113, R114: COL.AS and COL.DE, both results of the drive line. That they are issued where R110 has none
issued, with `WPEND = 1` or in another `ST` than their step's, is the model's choice (log 26). -/
def Obligations.ColumnLineResults : Prop :=
  ∀ (i : LineIdx) (s : State),
    (s.lineAnswer = false → exec (.colAs i) s =
      .next { s.answered with trace := s.trace ++ [.colAssert i], coll := s.coll ||| (1#4 <<< i.toNat) }) ∧
    (s.lineAnswer = true → exec (.colAs i) s =
      .next { s.answered with trace := s.trace ++ [.colAssert i], st := .fault, fcause := .hardwareFault,
                              finfo := 0x0C#5 + i.setWidth 5, wpend := false }) ∧
    (s.lineAnswer = false → exec (.colDe i) s =
      .next { s.answered with trace := s.trace ++ [.colDeassert i], coll := s.coll &&& ~~~(1#4 <<< i.toNat) }) ∧
    (s.lineAnswer = true → exec (.colDe i) s =
      .next { s.answered with trace := s.trace ++ [.colDeassert i], st := .fault, fcause := .hardwareFault,
                              finfo := 0x08#5 + i.setWidth 5, wpend := false })

/-- R115, R120: WAIT.US issues its event and sets `WPEND`; the delay port asks for a wait in microseconds. That
it is issued where R110 has none issued, with `WPEND = 1` or in another `ST` than its steps', is the model's choice
(log 26); `dly_val` is not spoken of (log 27). -/
def Obligations.WaitMicrosIssued : Prop :=
  ∀ (n : Word) (s : State), ∃ t, exec (.waitUs n) s = .next t ∧
    t = { s with trace := s.trace ++ [.waitUs n], wpend := true } ∧ t.dlyReq = true ∧ t.dlyUnit = false

/-- R116: WAIT.MS n is WAIT.US (1000 * n), the product exact. That its event is the microsecond one is the model's
reading (log 13), and so is that it is issued with `WPEND = 1` or in any `ST` (log 26). -/
def Obligations.WaitMillisIsThousandMicros : Prop :=
  ∀ (n : BitVec 16) (s : State), ∃ u : Word, u.toNat = 1000 * n.toNat ∧ exec (.waitMs n) s = exec (.waitUs u) s ∧
    exec (.waitMs n) s = .next { s with trace := s.trace ++ [.waitUs u], wpend := true }

/-- R117: a line operation on a line already in the state it commands changes no line and succeeds. That it
is issued where R110 has none issued, with `WPEND = 1` or in another `ST` than its step's, is the model's choice
(log 26). -/
def Obligations.LineOperationsAreIdempotent : Prop :=
  ∀ (i : LineIdx) (s : State), s.lineAnswer = false →
    (s.rowl.getLsbD i.toNat = true →
      exec (.rowAs i) s = .next { s.answered with trace := s.trace ++ [.rowAssert i] }) ∧
    (s.rowl.getLsbD i.toNat = false →
      exec (.rowDe i) s = .next { s.answered with trace := s.trace ++ [.rowDeassert i] }) ∧
    (s.coll.getLsbD i.toNat = true →
      exec (.colAs i) s = .next { s.answered with trace := s.trace ++ [.colAssert i] }) ∧
    (s.coll.getLsbD i.toNat = false →
      exec (.colDe i) s = .next { s.answered with trace := s.trace ++ [.colDeassert i] })

/-- R90: what a failed line operation records in `FINFO` is its own code: decoded, it is that operation.
That it is issued where R110 has none issued, with `WPEND = 1` or in another `ST` than its step's (S_FAULT among them,
R223), is the model's choice (log 26). -/
def Obligations.FinfoIsTheFailedOperation : Prop :=
  ∀ (i : Instr) (s : State) (x : LineIdx), i = .rowDe x ∨ i = .rowAs x ∨ i = .colDe x ∨ i = .colAs x →
    s.lineAnswer = true → ∃ t, exec i s = .next t ∧ t.fcause = .hardwareFault ∧ t.finfo.toNat < 16 ∧
      (∀ arg, decodeUop t.finfo arg = .ok i) ∧ t.finfo.extractLsb' 0 2 = x

/-- R120, R121 (and U3): the line pins follow the commanded state, but for the one pin whose operation failed, and the
delay port shows the pending wait. R62, R195: in a fetch `pat_addr` is `BASE + FP`, `pat_data` is the word of the store
there, and that word is what the fetch takes. What a pin shows where the spec leaves it open is not said (log 19); that
`pat_addr` is `BASE + FP` also while `WPEND = 1` holds the fetch is the model's choice (log 28). -/
def Obligations.PinsFollowTheCommandedState : Prop :=
  ∀ (s : State) (i : LineIdx),
    (s.fcause ≠ .hardwareFault → s.rowPin i = !s.rowl.getLsbD i.toNat ∧ s.colPin i = s.coll.getLsbD i.toNat) ∧
    (s.finfo ≠ i.setWidth 5 → s.finfo ≠ 4#5 + i.setWidth 5 → s.finfo.toNat < 16 →
      s.rowPin i = !s.rowl.getLsbD i.toNat) ∧
    (s.finfo ≠ 8#5 + i.setWidth 5 → s.finfo ≠ 12#5 + i.setWidth 5 → s.finfo.toNat < 16 →
      s.colPin i = s.coll.getLsbD i.toNat) ∧
    s.dlyReq = s.wpend ∧ s.dlyUnit = false ∧ (s.wpend = true → s.st = .dark → s.dlyVal = s.total) ∧
    (s.wpend = true → s.st = .pulse → s.dlyVal = s.minp) ∧
    (s.mem.wf = true → s.st = .fetch → s.base.toNat + s.fp.toNat < s.mem.depth →
      s.patAddr.toNat = s.base.toNat + s.fp.toNat ∧ s.patData = memRead s.mem (s.base.toNat + s.fp.toNat) ∧
      (s.wpend = false → ∃ w t, s.patData = some w ∧ exec .sFetch s = .next t ∧ t.frame = w))

/-! ### The normalizer -/

/-- R130: the lit count is the sum of the sixteen bits, and 0 exactly for the dark frame. -/
def Obligations.LitcountAddsTheCells : Prop :=
  ∀ f : FrameWord, (litcount f).toNat =
      (f.getLsbD 0).toNat + (f.getLsbD 1).toNat + (f.getLsbD 2).toNat + (f.getLsbD 3).toNat +
      (f.getLsbD 4).toNat + (f.getLsbD 5).toNat + (f.getLsbD 6).toNat + (f.getLsbD 7).toNat +
      (f.getLsbD 8).toNat + (f.getLsbD 9).toNat + (f.getLsbD 10).toNat + (f.getLsbD 11).toNat +
      (f.getLsbD 12).toNat + (f.getLsbD 13).toNat + (f.getLsbD 14).toNat + (f.getLsbD 15).toNat ∧
    (litcount f).toNat ≤ 16 ∧ ((litcount f).toNat = 0 ↔ f = 0)

/-- R131, R132, R133: the product is exact, the quotients are floors, each in its register's width. -/
def Obligations.NormalizerFunctionsAreExact : Prop :=
  (∀ (m : Word) (l : BitVec 5), l.toNat ≤ 16 → (passdur m l).toNat = m.toNat * l.toNat) ∧
  (∀ (t : Word) (d : BitVec 36), d ≠ 0 → (passcnt t d).toNat = t.toNat / d.toNat) ∧
  (∀ fps : Word, fps ≠ 0 → (budget fps).toNat = 1000000 / fps.toNat)

/-- R134: for a lit frame and a pulse width the passes fit in the budget, and one more does not. -/
def Obligations.PassesFitTheBudget : Prop :=
  ∀ (f : FrameWord) (t m : Word), f ≠ 0 → m ≠ 0 →
    let d := (passdur m (litcount f)).toNat
    let n := (passcnt t (passdur m (litcount f))).toNat
    1 ≤ d ∧ n * d ≤ t.toNat ∧ t.toNat < (n + 1) * d

/-- R135: S_NORM on a dark frame, and on a lit one. The pass count for `MINP = 0`, which R132 does not define, is free
(log 9). -/
def Obligations.NormalizeResult : Prop :=
  ∀ s : State, s.wpend = false →
    (s.frame = 0 → exec .sNorm s =
      .next { s with lit := 0, pdur := 0, pcnt := 0, pass := 0, row := 0, col := 0, st := .dark }) ∧
    (s.frame ≠ 0 → ∃ n : Word, (s.minp ≠ 0 → n.toNat = s.total.toNat / (s.minp.toNat * litNat s.frame)) ∧
      exec .sNorm s =
        .next { s with lit := BitVec.ofNat 5 (litNat s.frame),
                       pdur := BitVec.ofNat 36 (s.minp.toNat * litNat s.frame), pcnt := n, pass := 0, row := 0,
                       col := 0, st := if n = 0 then .done else .rowEn })

/-! ### The scan FSM -/

/-- R151, R225: S_IDLE and S_FAULT have no step of their own. That the block's turn there is a next state with nothing
changed is the model's choice (log 17). -/
def Obligations.IdleAndFaultChangeNothing : Prop :=
  ∀ s : State, exec .sIdle s = .next s ∧ exec .sFault s = .next s

/-- R152, R153, R157, R158: the dark wait is issued with the whole budget and the pulse wait with `MINP`; each is
completed. -/
def Obligations.WaitsIssuedAndCompleted : Prop :=
  ∀ s : State,
    (s.wpend = false → exec .sDark s = .next { s with trace := s.trace ++ [.waitUs s.total], wpend := true }) ∧
    (s.wpend = true → exec .sDark s = .next { s with wpend := false, st := .done }) ∧
    (s.wpend = false → exec .sPulse s = .next { s with trace := s.trace ++ [.waitUs s.minp], wpend := true }) ∧
    (s.wpend = true → exec .sPulse s = .next { s with wpend := false, st := .colOff })

/-- R154: the row is enabled. -/
def Obligations.RowEnabled : Prop :=
  ∀ s : State, s.wpend = false →
    (s.lineAnswer = false → exec .sRowEn s =
      .next { s.answered with trace := s.trace ++ [.rowAssert s.row], rowl := s.rowl ||| (1#4 <<< s.row.toNat),
                              col := 0, st := .cell }) ∧
    (s.lineAnswer = true → exec .sRowEn s =
      .next { s.answered with trace := s.trace ++ [.rowAssert s.row], st := .fault, fcause := .hardwareFault,
                              finfo := 0x04#5 + s.row.setWidth 5, wpend := false })

/-- R155, R82: the cell is bit `4*ROW + COL` of `FRAME`. -/
def Obligations.CellExamined : Prop :=
  ∀ s : State, s.wpend = false →
    (s.frame.getLsbD (4 * s.row.toNat + s.col.toNat) = true → exec .sCell s = .next { s with st := .colOn }) ∧
    (s.frame.getLsbD (4 * s.row.toNat + s.col.toNat) = false → s.col = 3 →
      exec .sCell s = .next { s with st := .rowDis }) ∧
    (s.frame.getLsbD (4 * s.row.toNat + s.col.toNat) = false → s.col ≠ 3 →
      exec .sCell s = .next { s with col := s.col + 1 })

/-- R156: the column is asserted. -/
def Obligations.ColumnAsserted : Prop :=
  ∀ s : State, s.wpend = false →
    (s.lineAnswer = false → exec .sColOn s =
      .next { s.answered with trace := s.trace ++ [.colAssert s.col], coll := s.coll ||| (1#4 <<< s.col.toNat),
                              st := .pulse }) ∧
    (s.lineAnswer = true → exec .sColOn s =
      .next { s.answered with trace := s.trace ++ [.colAssert s.col], st := .fault, fcause := .hardwareFault,
                              finfo := 0x0C#5 + s.col.setWidth 5, wpend := false })

/-- R159: the column is deasserted; then the next cell, or the end of the row. -/
def Obligations.ColumnDeasserted : Prop :=
  ∀ s : State, s.wpend = false →
    (s.lineAnswer = false → exec .sColOff s =
      .next { s.answered with trace := s.trace ++ [.colDeassert s.col], coll := s.coll &&& ~~~(1#4 <<< s.col.toNat),
                              col := if s.col = 3 then s.col else s.col + 1,
                              st := if s.col = 3 then .rowDis else .cell }) ∧
    (s.lineAnswer = true → exec .sColOff s =
      .next { s.answered with trace := s.trace ++ [.colDeassert s.col], st := .fault, fcause := .hardwareFault,
                              finfo := 0x08#5 + s.col.setWidth 5, wpend := false })

/-- R160: the row is disabled; after row 3 the pass is counted, and the render ends when `PASS + 1 = PCNT`. Where
`PASS` has no successor in 32 bits, which R35 says never happens, what it then holds is free (log 10). -/
def Obligations.RowDisabledAndPassCounted : Prop :=
  ∀ s : State, s.wpend = false →
    let u : State := { s.answered with trace := s.trace ++ [.rowDeassert s.row], rowl := s.rowl &&& ~~~(1#4 <<< s.row.toNat) }
    (s.lineAnswer = false → s.row ≠ 3 → exec .sRowDis s = .next { u with row := s.row + 1, st := .rowEn }) ∧
    (s.lineAnswer = false → s.row = 3 → s.pass.toNat + 1 = s.pcnt.toNat →
      exec .sRowDis s = .next { u with pass := s.pcnt, st := .done }) ∧
    (s.lineAnswer = false → s.row = 3 → s.pass.toNat + 1 ≠ s.pcnt.toNat →
      ∃ p : Word, (s.pass.toNat + 1 < 2 ^ 32 → p.toNat = s.pass.toNat + 1) ∧
        exec .sRowDis s = .next { u with pass := p, row := 0, st := .rowEn }) ∧
    (s.lineAnswer = true → exec .sRowDis s =
      .next { s.answered with trace := s.trace ++ [.rowDeassert s.row], st := .fault, fcause := .hardwareFault,
                              finfo := 0x00#5 + s.row.setWidth 5, wpend := false })

/-- R161: the return of a one-shot render. -/
def Obligations.OneShotReturns : Prop :=
  ∀ s : State, s.wpend = false → s.mode = .oneShot → exec .sDone s = .next { s with done := true, st := .idle }

/-! ### The sequencer -/

/-- R184: the advance of a PLAY, wrapping after the last frame. Where `FP` has no successor in 16 bits, which R35 says
never happens, what it then holds is free (log 10). -/
def Obligations.PlayAdvances : Prop :=
  ∀ s : State, s.wpend = false → s.mode = .play →
    (s.fp.toNat + 1 = s.len.toNat → exec .sDone s = .next { s with fp := 0, st := .fetch }) ∧
    (s.fp.toNat + 1 ≠ s.len.toNat → ∃ p : BitVec 16, (s.fp.toNat + 1 < 2 ^ 16 → p.toNat = s.fp.toNat + 1) ∧
      exec .sDone s = .next { s with fp := p, st := .fetch })

/-- R181, R62: the fetch reads the word at `BASE + FP` and sets the budget. The budget for `FPS = 0`, which R133 does
not define, is free (log 9). -/
def Obligations.FetchResult : Prop :=
  ∀ (s : State) (w : FrameWord), s.wpend = false → memRead s.mem (s.base.toNat + s.fp.toNat) = some w →
    ∃ b : Word, (s.fps ≠ 0 → b.toNat = 1000000 / s.fps.toNat) ∧
      exec .sFetch s = .next { s with frame := w, total := b, st := .norm }

/-- R61, R62: `MemRead` of an address below `ROM_DEPTH` is `ROM[addr]`: in a canonical store the listed word, for an
unlisted address the open content of the store (log 2). At no other address is there a word, and a fetch from there,
which R62 says never happens, stops the model (log 18). -/
def Obligations.FetchOutsideTheStoreStops : Prop :=
  ∀ s : State,
    (∀ a w, s.mem.wf = true → (a, w) ∈ s.mem.cells → memRead s.mem a = some w) ∧
    (∀ a, a < s.mem.depth → (∀ w, (a, w) ∉ s.mem.cells) → memRead s.mem a = some (Config.romWord a)) ∧
    (∀ a, a < s.mem.depth ↔ ∃ w, memRead s.mem a = some w) ∧
    (s.wpend = false → s.mem.depth ≤ s.base.toNat + s.fp.toNat →
      exec .sFetch s = .fault (.outsideStore (s.base.toNat + s.fp.toNat)))

/-- R182: FRAME.DARK, executed from S_NORM to S_DONE: the whole undisturbed render in one `exec` (log 8). -/
def Obligations.DarkFrameResult : Prop :=
  ∀ s : State, s.wpend = false →
    exec .frameDark s =
      .next { s with frame := 0, lit := 0, pdur := 0, pcnt := 0, pass := 0, row := 0, col := 0, st := .done,
                     trace := s.trace ++ [.waitUs s.total] }

/-- R183: FRAME.LIT, executed from S_NORM to S_DONE with all lines deasserted and no line operation failing: the trace,
the writes, and how many answers of the drive lines it takes (R167). The whole undisturbed render in one `exec` is
log 8. -/
def Obligations.LitFrameResult : Prop :=
  ∀ (f : FrameWord) (s : State) (rest : List Bool),
    f ≠ 0 → s.minp ≠ 0 → s.wpend = false → s.rowl = 0 → s.coll = 0 →
    s.answers = List.replicate (lineOpCount f s.total s.minp) false ++ rest →
    let n := s.total.toNat / (s.minp.toNat * litNat f)
    exec (.frameLit f) s =
      .next { s with frame := f, lit := BitVec.ofNat 5 (litNat f),
                     pdur := BitVec.ofNat 36 (s.minp.toNat * litNat f),
                     pcnt := BitVec.ofNat 32 n, pass := BitVec.ofNat 32 n, row := if n = 0 then 0 else 3,
                     col := if n = 0 then 0 else 3, st := .done,
                     trace := s.trace ++ (List.replicate n (passOps f s.minp)).flatten, answers := rest }

/-- R165: the trace of a render in closed form, for every frame, budget and pulse width, and from every state of the
lines, where no line operation fails. That a frame word's `exec` is the whole undisturbed render is the model's choice
(log 8). -/
def Obligations.RenderTraceInClosedForm : Prop :=
  ∀ (f : FrameWord) (s : State) (rest : List Bool), s.minp ≠ 0 → s.wpend = false →
    s.answers = List.replicate (lineOpCount f s.total s.minp) false ++ rest →
    ∃ t, exec (decodeFrame f) s = .next t ∧ t.st = .done ∧ t.trace = s.trace ++ renderOps f s.total s.minp ∧
      t.answers = rest

/-- R183, R216, R222, R223: a render in which the line operation after the first `k` fails. Its trace is a beginning of
the closed form that ends with the failed operation; the block is in S_FAULT with that operation's code; the lines stand
as the operations before it left them. What is not named is as before (log 8: the whole render in one `exec`). -/
def Obligations.FailingRenderStopsAtTheFailure : Prop :=
  ∀ (f : FrameWord) (s : State) (k : Nat) (rest : List Bool), s.minp ≠ 0 → s.wpend = false →
    k < lineOpCount f s.total s.minp → s.answers = List.replicate k false ++ true :: rest →
    ∃ (op : LineOp) (es : List Event) (t : State), exec (decodeFrame f) s = .next t ∧
      (es ++ [lineEvent op]) <+: renderOps f s.total s.minp ∧ (es.filter isLineEvent).length = k ∧
      t = { s with frame := f, lit := BitVec.ofNat 5 (litNat f),
                   pdur := BitVec.ofNat 36 (s.minp.toNat * litNat f),
                   pcnt := BitVec.ofNat 32 (s.total.toNat / (s.minp.toNat * litNat f)),
                   pass := t.pass, row := t.row, col := t.col, st := .fault, fcause := .hardwareFault,
                   finfo := lineCode op, rowl := es.foldl rowsStep s.rowl, coll := es.foldl colsStep s.coll,
                   trace := s.trace ++ es ++ [lineEvent op], answers := rest }

/-- R136, R167, R246: how many micro-operations a lit render issues, and that the waits it requests sum to the budget
less the remainder: of the closed form, and of the events that executing the frame word appends (log 8). -/
def Obligations.RenderCountsAndTruncation : Prop :=
  (∀ (f : FrameWord) (t m : Word), f ≠ 0 → m ≠ 0 →
    (renderOps f t m).length = t.toNat / (m.toNat * litNat f) * (8 + 3 * litNat f) ∧
    nominalMicros (renderOps f t m) = t.toNat - t.toNat % (m.toNat * litNat f) ∧
    renderOps 0 t m = [.waitUs t]) ∧
  (∀ (f : FrameWord) (s : State) (rest : List Bool), f ≠ 0 → s.minp ≠ 0 → s.wpend = false →
    s.answers = List.replicate (lineOpCount f s.total s.minp) false ++ rest →
    let n := s.total.toNat / (s.minp.toNat * litNat f)
    ∃ (u : State) (es : List Event), exec (.frameLit f) s = .next u ∧ u.trace = s.trace ++ es ∧
      es.length = n * (8 + 3 * litNat f) ∧ (es.filter isLineEvent).length = n * (8 + 2 * litNat f) ∧
      nominalMicros es = u.pcnt.toNat * u.pdur.toNat ∧
      nominalMicros es = s.total.toNat - s.total.toNat % (s.minp.toNat * litNat f))

/-- R168: what a render appends to the trace depends on nothing of the state but `FRAME`, `TOTAL`, `MINP` and the drive
lines' answers, listed or drawn, whether or not one of them is a fault. The render is the `exec` of a frame word, undisturbed,
from any `ST`: the model's choice (log 8). -/
def Obligations.RenderIsDeterministic : Prop :=
  ∀ (f : FrameWord) (s s' : State), s.wpend = false → s'.wpend = false → s.total = s'.total → s.minp = s'.minp →
    s.answers = s'.answers → s.draws = s'.draws →
    ∃ t t' es, exec (decodeFrame f) s = .next t ∧ exec (decodeFrame f) s' = .next t' ∧ t.trace = s.trace ++ es ∧
      t'.trace = s'.trace ++ es ∧ t.st = t'.st

/-- R3, R150, R182, R183: executing a frame word (log 8) is a row of single steps of the block and of the delay source:
the block, in S_NORM with the word in `FRAME`, reaches the same state by them, whatever the drive lines answer. The list
of turns is the model's way to write the schedule (log 3). -/
def Obligations.FrameWordIsARowOfSingleSteps : Prop :=
  ∀ (s : State) (rest : List Turn) (i : Instr), s.st = .norm → s.wpend = false → decode .frame s.frame.toNat = .ok i →
    ∃ ts t u, undisturbed ts ∧ exec i s = .next t ∧ (t.st = .done ∨ t.st = .fault) ∧
      core.run ts.length { s with turns := ts ++ rest } = .next u ∧
      u = { t with turns := rest, ticks := s.ticks + ts.length }

/-- R181, R184, R185, R187: one frame of a PLAY, from its fetch to the next fetch, in single steps of the block and of
the delay source: the frame at `BASE + FP` is rendered with the budget of `FPS`, and `FP` goes on to the next index, or
from the last to 0. The list of turns is the model's way to write the schedule (log 3). -/
def Obligations.PlayRendersFrameAfterFrame : Prop :=
  ∀ (s : State) (w : FrameWord) (rest : List Turn) (ans : List Bool),
    s.st = .fetch → s.mode = .play → s.wpend = false → s.minp ≠ 0 → s.fps ≠ 0 → s.fp.toNat < s.len.toNat →
    memRead s.mem (s.base.toNat + s.fp.toNat) = some w →
    s.answers = List.replicate (lineOpCount w (budget s.fps) s.minp) false ++ ans →
    ∃ ts t, undisturbed ts ∧ core.run ts.length { s with turns := ts ++ rest } = .next t ∧ t.st = .fetch ∧
      t.mode = .play ∧ t.frame = w ∧ t.total.toNat = 1000000 / s.fps.toNat ∧
      t.trace = s.trace ++ renderOps w t.total s.minp ∧ t.fp.toNat = (s.fp.toNat + 1) % s.len.toNat ∧
      t.done = s.done ∧ t.turns = rest ∧ t.answers = ans

/-- R201, R161, R165: a RENDER taken with a pulse width, then single steps of the block and of the delay source with no
other turn between them, runs the whole render and comes back to S_IDLE with `DONE` set. The list of turns is the
model's way to write the schedule (log 3). -/
def Obligations.OneShotRenderRunsAndReturns : Prop :=
  ∀ (s : State) (d : Word) (rest : List Turn) (ans : List Bool),
    s.st = .idle → s.wpend = false → s.minp ≠ 0 → decodeCmd d = .render →
    s.answers = List.replicate (lineOpCount s.frame s.total s.minp) false ++ ans →
    ∃ ts t, undisturbed ts ∧
      core.run (ts.length + 1) { s with turns := .host (1#1 ++ 0#4 ++ d) :: (ts ++ rest) } = .next t ∧
      t.st = .idle ∧ t.done = true ∧ t.mode = .oneShot ∧ t.trace = s.trace ++ renderOps s.frame s.total s.minp ∧
      t.fp = s.fp ∧ t.turns = rest ∧ t.answers = ans

/-! ### The host port -/

/-- R196, R43, R44: a read puts the register's value on `csr_rdata` and changes nothing else, in every state. -/
def Obligations.CsrReadTable : Prop :=
  ∀ s : State, (∀ x, ∃ v, exec (.csrRd x) s = .next { s with csrRdata := v }) ∧
    exec (.csrRd 0) s = .next { s with csrRdata := 0 } ∧
    exec (.csrRd 2) s = .next { s with csrRdata := s.frame.setWidth 32 } ∧
    exec (.csrRd 3) s = .next { s with csrRdata := s.total } ∧
    exec (.csrRd 4) s = .next { s with csrRdata := s.minp } ∧
    exec (.csrRd 5) s = .next { s with csrRdata := s.fps } ∧
    exec (.csrRd 6) s = .next { s with csrRdata := s.base.setWidth 32 } ∧
    exec (.csrRd 7) s = .next { s with csrRdata := s.len.setWidth 32 } ∧
    exec (.csrRd 9) s = .next { s with csrRdata := s.fp.setWidth 32 } ∧
    exec (.csrRd 10) s =
      .next { s with csrRdata := BitVec.ofNat 32 (s.rowl.toNat + 16 * s.coll.toNat) } ∧
    exec (.csrRd 11) s = .next { s with csrRdata := s.lit.setWidth 32 } ∧
    exec (.csrRd 12) s = .next { s with csrRdata := BitVec.ofNat 32 (s.pdur.toNat % 2 ^ 32) } ∧
    exec (.csrRd 13) s = .next { s with csrRdata := BitVec.ofNat 32 (s.pdur.toNat / 2 ^ 32) } ∧
    exec (.csrRd 14) s = .next { s with csrRdata := s.pcnt } ∧
    exec (.csrRd 15) s = .next { s with csrRdata := s.pass }

/-- R40, R45: every bit of `STATUS`, as a read of index 1 gives it; a write to index 1 has no effect. -/
def Obligations.StatusBits : Prop :=
  ∀ s : State, ∃ v : Word, exec (.csrRd 1) s = .next { s with csrRdata := v } ∧
    (v.getLsbD 0 = true ↔ s.st ≠ .idle ∧ s.st ≠ .fault) ∧ v.getLsbD 1 = s.done ∧
    (v.getLsbD 2 = true ↔ s.st = .fault) ∧ v.getLsbD 3 = s.wpend ∧ v.extractLsb' 4 4 = stCode s.st ∧
    v.extractLsb' 8 2 = s.row ∧ v.extractLsb' 10 2 = s.col ∧ (v.getLsbD 12 = true ↔ s.mode = .play) ∧
    (∀ i, 13 ≤ i → v.getLsbD i = false) ∧ (∀ d, exec (.csrWr 1 d) s = .next s)

/-- R42: CSR 8 shows the fault record, `FCAUSE` in bits 2:0 and `FINFO` in bits 12:8, the other bits 0. -/
def Obligations.FaultRecordBits : Prop :=
  ∀ s : State, ∃ v : Word, exec (.csrRd 8) s = .next { s with csrRdata := v } ∧
    v.toNat = 256 * s.finfo.toNat + (match s.fcause with
      | .none => 0 | .hardwareFault => 1 | .zeroPulse => 2 | .zeroFps => 3 | .emptySequence => 4 | .badRange => 5
      | .badCommand => 6)

/-- R197, R198, R199: what each host write does. -/
def Obligations.CsrWriteTable : Prop :=
  ∀ (s : State) (d : Word),
    (s.st ≠ .idle → ∀ x, exec (.csrWr x d) s = .next s) ∧
    (∀ x : CsrIdx, x = 1 ∨ 8 ≤ x.toNat → exec (.csrWr x d) s = .next s) ∧
    (s.st = .idle →
      exec (.csrWr 2 d) s = .next { s with frame := d.setWidth 16 } ∧
      exec (.csrWr 3 d) s = .next { s with total := d } ∧ exec (.csrWr 4 d) s = .next { s with minp := d } ∧
      exec (.csrWr 5 d) s = .next { s with fps := d } ∧ exec (.csrWr 6 d) s = .next { s with base := d.setWidth 16 } ∧
      exec (.csrWr 7 d) s = .next { s with len := d.setWidth 16 } ∧
      (d.toNat % 4 = 0 → exec (.csrWr 0 d) s = exec .nop s) ∧
      (d.toNat % 4 = 1 → exec (.csrWr 0 d) s = exec .render s) ∧
      (d.toNat % 4 = 2 → exec (.csrWr 0 d) s = exec .play s) ∧
      (d.toNat % 4 = 3 → exec (.csrWr 0 d) s = exec .cmdRsvd s))

/-- R200, R203, R197: NOP does nothing; the reserved command clears `DONE` and enters the fault state with BadCommand;
outside S_IDLE a command is discarded whole. That the command itself says the last, and not only the write that carries
it, is the model's choice (log 16). -/
def Obligations.NopReservedAndDiscardedCommands : Prop :=
  ∀ s : State, exec .nop s = .next s ∧
    (s.st = .idle → exec .cmdRsvd s =
      .next { s with done := false, st := .fault, fcause := .badCommand, finfo := 0, wpend := false }) ∧
    (s.st ≠ .idle → exec .render s = .next s ∧ exec .play s = .next s ∧ exec .cmdRsvd s = .next s)

/-- R201: RENDER, accepted or refused. -/
def Obligations.RenderCommand : Prop :=
  ∀ s : State, s.st = .idle →
    (s.minp ≠ 0 → exec .render s = .next { s with done := false, mode := .oneShot, st := .norm }) ∧
    (s.minp = 0 → exec .render s =
      .next { s with done := false, st := .fault, fcause := .zeroPulse, finfo := 0, wpend := false })

/-- R202, R224: PLAY, accepted, or refused with the lowest cause code that holds. -/
def Obligations.PlayCommand : Prop :=
  ∀ s : State, s.st = .idle →
    let refused : Cause → State := fun c =>
      { s with done := false, st := .fault, fcause := c, finfo := 0, wpend := false }
    (s.minp = 0 → exec .play s = .next (refused .zeroPulse)) ∧
    (s.minp ≠ 0 → s.fps = 0 → exec .play s = .next (refused .zeroFps)) ∧
    (s.minp ≠ 0 → s.fps ≠ 0 → s.len = 0 → exec .play s = .next (refused .emptySequence)) ∧
    (s.minp ≠ 0 → s.fps ≠ 0 → s.len ≠ 0 → s.mem.depth < s.base.toNat + s.len.toNat →
      exec .play s = .next (refused .badRange)) ∧
    (s.minp ≠ 0 → s.fps ≠ 0 → s.len ≠ 0 → s.base.toNat + s.len.toNat ≤ s.mem.depth →
      exec .play s = .next { s with done := false, mode := .play, fp := 0, st := .fetch })

/-! ### The whole machine -/

/-- R205, R245: no access of the host changes a block that is busy or faulted. -/
def Obligations.HostCannotDisturbARunningBlock : Prop :=
  ∀ (s : State) (w : AccessWord), s.st ≠ .idle → s.nextTurn = .host w → ∃ t, step s = .next t ∧ sameBlock s t

/-- R225: in S_FAULT every turn but reset leaves the block as it is. That the turn of the block, and of the delay source
without a wait, is a next state there, where R150 and R225 give no step, is the model's choice (log 17). -/
def Obligations.FaultStateIsTerminal : Prop :=
  ∀ s : State, s.st = .fault → s.wpend = false → s.nextTurn ≠ .reset → ∃ t, step s = .next t ∧ sameBlock s t

/-- R185: a PLAY never returns: no turn but reset makes it idle or sets `DONE`. -/
def Obligations.PlayNeverReturns : Prop :=
  ∀ s t : State, s.mode = .play → s.st ≠ .idle → s.nextTurn ≠ .reset → step s = .next t →
    t.mode = .play ∧ t.st ≠ .idle ∧ t.done = s.done

/-- R21 to R26, R180: while the block is busy nothing but reset changes its parameters; `FRAME` and `TOTAL` change at a
fetch only. -/
def Obligations.ParametersConstantWhileBusy : Prop :=
  ∀ s t : State, s.st ≠ .idle → s.nextTurn ≠ .reset → step s = .next t →
    t.minp = s.minp ∧ t.fps = s.fps ∧ t.base = s.base ∧ t.len = s.len ∧ t.mode = s.mode ∧
    (s.st ≠ .fetch → t.frame = s.frame ∧ t.total = s.total)

/-- R61, R63, R72: no instruction and no step, reset among them, writes the pattern store: every address reads as it
did. -/
def Obligations.PatternStoreIsNeverWritten : Prop :=
  (∀ (i : Instr) (s t : State), exec i s = .next t → t.mem = s.mem ∧ ∀ a, memRead t.mem a = memRead s.mem a) ∧
  (∀ s t : State, step s = .next t → t.mem = s.mem ∧ ∀ a, memRead t.mem a = memRead s.mem a)

/-- R110: a step issues at most one micro-operation, and none while a wait is pending. -/
def Obligations.AtMostOneEventPerStep : Prop :=
  ∀ s t : State, s.nextTurn ≠ .reset → step s = .next t →
    addsAtMostOneEvent s t ∧ (s.wpend = true → t.trace = s.trace)

/-- R118: where the line operation of a step succeeds, the step records no HardwareFault. -/
def Obligations.NoFailureNoHardwareFault : Prop :=
  ∀ s t : State, s.lineAnswer = false → step s = .next t →
    t.fcause = .hardwareFault → s.fcause = .hardwareFault

/-- The reset state meets the invariant. -/
def Obligations.ResetMeetsTheInvariant : Prop := Invariant State.reset

/-- R166, R35, R41, R42, R138: every step of every agent, whatever the drive lines answer, keeps the invariant. -/
def Obligations.EveryStepKeepsTheInvariant : Prop :=
  ∀ s t : State, Invariant s → step s = .next t → Invariant t

/-- R62, R150: from a state that meets the invariant every step answers a next state: no fetch leaves the store, no
turn finds a code without a step. That the block's turn in S_IDLE and S_FAULT, or held by a wait, and the delay source's
turn without a wait, where R150 gives no step, are next states is the model's choice (log 17). -/
def Obligations.InvariantNeverStops : Prop :=
  ∀ s : State, Invariant s → ∃ t, step s = .next t

/-- R166 (f): the FSM issues no redundant line operation: in a step from a state that meets the invariant, the operation
whose event is appended finds its line in the other state. -/
def Obligations.NoRedundantLineOperation : Prop :=
  ∀ (s t : State) (i : LineIdx), Invariant s → step s = .next t →
    (t.trace = s.trace ++ [.rowAssert i] → s.rowl.getLsbD i.toNat = false) ∧
    (t.trace = s.trace ++ [.rowDeassert i] → s.rowl.getLsbD i.toNat = true) ∧
    (t.trace = s.trace ++ [.colAssert i] → s.coll.getLsbD i.toNat = false) ∧
    (t.trace = s.trace ++ [.colDeassert i] → s.coll.getLsbD i.toNat = true)

/-- R166, R244: in every run from reset, over every pattern store, with every interleaving of the agents' turns, every
program of the host and every answer of the drive lines: at most one row and one column are asserted, a column only
with a row, and the one LED commanded on is a lit cell of `FRAME`. The lists of turns and of answers are the model's way
to write the interleaving and the drive lines' results (log 3, 4). -/
def Obligations.OneRowAtATimeInEveryRun : Prop :=
  ∀ (m : Memory) (ts : List Turn) (ans : List Bool) (k : Nat) (t : State), m.wf = true →
    core.run k { State.reset with mem := m, turns := ts, answers := ans } = .next t →
    atMostOne t.rowl ∧ atMostOne t.coll ∧ (t.coll ≠ 0 → t.rowl ≠ 0) ∧
    (∀ r c, t.ledOn r c = true → t.frame.getLsbD (4 * r.toNat + c.toNat) = true)
end

