-- ==== Sys2Proof/Laws/Decode.lean ====
section
/-! SUPPORT. The decoders' small lemmas. -/

namespace Sys2Proof

/-- A number in a format's width is what the format's decoder reads. -/
theorem decode_of_lt {f : Format} {n : Nat} (h : n < 2 ^ f.bits) : decode f n = decodeBits f n := by
  simp [decode, h]

theorem decode_frame (w : FrameWord) : decode .frame w.toNat = .ok (decodeFrame w) := by
  have h : w.toNat < 2 ^ Format.frame.bits := w.isLt
  simp [decode_of_lt h, decodeBits]

theorem decode_access (w : AccessWord) : decode .access w.toNat = .ok (decodeAccess w) := by
  have h : w.toNat < 2 ^ Format.access.bits := w.isLt
  simp [decode_of_lt h, decodeBits]

theorem decode_cmd (w : Word) : decode .cmd w.toNat = .ok (decodeCmd w) := by
  have h : w.toNat < 2 ^ Format.cmd.bits := w.isLt
  simp [decode_of_lt h, decodeBits]

theorem decode_step (c : BitVec 4) : decode .step c.toNat = decodeStep c := by
  have h : c.toNat < 2 ^ Format.step.bits := c.isLt
  simp [decode_of_lt h, decodeBits]

/-- The parts of an access word (R85). -/
theorem accessWord_parts (we : BitVec 1) (idx : CsrIdx) (data : Word) :
    (we ++ idx ++ data : AccessWord).getLsbD 36 = we.getLsbD 0 ∧
    (we ++ idx ++ data : AccessWord).extractLsb' 32 4 = idx ∧
    (we ++ idx ++ data : AccessWord).extractLsb' 0 32 = data := by
  have bit : ∀ i, (we ++ idx ++ data : AccessWord).getLsbD i =
      if i < 32 then data.getLsbD i else if i - 32 < 4 then idx.getLsbD (i - 32) else we.getLsbD (i - 32 - 4) := by
    intro i
    exact (BitVec.getLsbD_append (x := we ++ idx) (y := data)).trans (by
      split
      · rfl
      · exact BitVec.getLsbD_append (x := we) (y := idx))
  refine ⟨by rw [bit]; simp, ?_, ?_⟩
  · apply BitVec.eq_of_getLsbD_eq
    intro i hi
    rw [BitVec.getLsbD_extractLsb', bit]
    simp [hi]
  · apply BitVec.eq_of_getLsbD_eq
    intro i hi
    rw [BitVec.getLsbD_extractLsb', bit]
    simp [hi]

/-- The parts of a micro-operation's word (log 15). -/
theorem uopWord_eq (arg : Word) (code : UopCode) : uopWord arg code = arg.toNat * 32 + code.toNat := by
  unfold uopWord
  rw [show (arg ++ code).toNat = arg.toNat <<< 5 ||| code.toNat from BitVec.toNat_append arg code,
    ← Nat.shiftLeft_add_eq_or_of_lt code.isLt, Nat.shiftLeft_eq]

/-- A micro-operation's word is read as its code and its argument (R88; log 15). -/
theorem decode_uopWord (arg : Word) (code : UopCode) : decode .uop (uopWord arg code) = decodeUop code arg := by
  have hc := code.isLt
  have ha := arg.isLt
  have h : uopWord arg code < 2 ^ Format.uop.bits := (arg ++ code).isLt
  rw [decode_of_lt h, decodeBits, uopWord_eq]
  congr 1
  · apply BitVec.eq_of_toNat_eq
    simp
    omega
  · apply BitVec.eq_of_toNat_eq
    simp
    omega

/-- The step instruction of a state of the FSM. -/
def stepInstr : St → Instr
  | .idle => .sIdle
  | .fetch => .sFetch
  | .norm => .sNorm
  | .dark => .sDark
  | .rowEn => .sRowEn
  | .cell => .sCell
  | .colOn => .sColOn
  | .pulse => .sPulse
  | .colOff => .sColOff
  | .rowDis => .sRowDis
  | .done => .sDone
  | .fault => .sFault

/-- Every value of `ST` selects a step (R93, R162). -/
@[simp] theorem decodeStep_stCode (st : St) : decodeStep (stCode st) = .ok (stepInstr st) := by
  cases st <;> rfl

/-- A frame word decodes to FRAME.DARK or FRAME.LIT (R83). -/
theorem decodeFrame_cases (w : FrameWord) :
    (w = 0 ∧ decodeFrame w = .frameDark) ∨ (w ≠ 0 ∧ decodeFrame w = .frameLit w) := by
  unfold decodeFrame
  split <;> simp_all

/-- A host access decodes to a read or a write (R85). -/
theorem decodeAccess_cases (w : AccessWord) :
    (∃ idx, decodeAccess w = .csrRd idx) ∨ (∃ idx data, decodeAccess w = .csrWr idx data) := by
  unfold decodeAccess
  split
  · exact .inr ⟨_, _, rfl⟩
  · exact .inl ⟨_, rfl⟩

end Sys2Proof
end

