-- ==== Sys2Proof/Laws/State.lean ====
section
/-! SUPPORT. One lemma per field per named update of the state, all true by `rfl` (the normalizer's after
one unfolding, so that its arithmetic is not evaluated). -/

namespace Sys2Proof.Machine

@[simp] theorem State.record_frame (e : Event) (s : State) : (State.record e s).frame = s.frame := rfl
@[simp] theorem State.record_total (e : Event) (s : State) : (State.record e s).total = s.total := rfl
@[simp] theorem State.record_minp (e : Event) (s : State) : (State.record e s).minp = s.minp := rfl
@[simp] theorem State.record_fps (e : Event) (s : State) : (State.record e s).fps = s.fps := rfl
@[simp] theorem State.record_base (e : Event) (s : State) : (State.record e s).base = s.base := rfl
@[simp] theorem State.record_len (e : Event) (s : State) : (State.record e s).len = s.len := rfl
@[simp] theorem State.record_lit (e : Event) (s : State) : (State.record e s).lit = s.lit := rfl
@[simp] theorem State.record_pdur (e : Event) (s : State) : (State.record e s).pdur = s.pdur := rfl
@[simp] theorem State.record_pcnt (e : Event) (s : State) : (State.record e s).pcnt = s.pcnt := rfl
@[simp] theorem State.record_pass (e : Event) (s : State) : (State.record e s).pass = s.pass := rfl
@[simp] theorem State.record_row (e : Event) (s : State) : (State.record e s).row = s.row := rfl
@[simp] theorem State.record_col (e : Event) (s : State) : (State.record e s).col = s.col := rfl
@[simp] theorem State.record_fp (e : Event) (s : State) : (State.record e s).fp = s.fp := rfl
@[simp] theorem State.record_st (e : Event) (s : State) : (State.record e s).st = s.st := rfl
@[simp] theorem State.record_mode (e : Event) (s : State) : (State.record e s).mode = s.mode := rfl
@[simp] theorem State.record_rowl (e : Event) (s : State) : (State.record e s).rowl = s.rowl := rfl
@[simp] theorem State.record_coll (e : Event) (s : State) : (State.record e s).coll = s.coll := rfl
@[simp] theorem State.record_done (e : Event) (s : State) : (State.record e s).done = s.done := rfl
@[simp] theorem State.record_wpend (e : Event) (s : State) : (State.record e s).wpend = s.wpend := rfl
@[simp] theorem State.record_fcause (e : Event) (s : State) : (State.record e s).fcause = s.fcause := rfl
@[simp] theorem State.record_finfo (e : Event) (s : State) : (State.record e s).finfo = s.finfo := rfl
@[simp] theorem State.record_mem (e : Event) (s : State) : (State.record e s).mem = s.mem := rfl
@[simp] theorem State.record_trace (e : Event) (s : State) : (State.record e s).trace = s.trace ++ [e] := rfl
@[simp] theorem State.record_csrRdata (e : Event) (s : State) : (State.record e s).csrRdata = s.csrRdata := rfl
@[simp] theorem State.record_turns (e : Event) (s : State) : (State.record e s).turns = s.turns := rfl
@[simp] theorem State.record_answers (e : Event) (s : State) : (State.record e s).answers = s.answers := rfl
@[simp] theorem State.record_draws (e : Event) (s : State) : (State.record e s).draws = s.draws := rfl
@[simp] theorem State.record_ticks (e : Event) (s : State) : (State.record e s).ticks = s.ticks := rfl

@[simp] theorem State.answered_frame (s : State) : s.answered.frame = s.frame := rfl
@[simp] theorem State.answered_total (s : State) : s.answered.total = s.total := rfl
@[simp] theorem State.answered_minp (s : State) : s.answered.minp = s.minp := rfl
@[simp] theorem State.answered_fps (s : State) : s.answered.fps = s.fps := rfl
@[simp] theorem State.answered_base (s : State) : s.answered.base = s.base := rfl
@[simp] theorem State.answered_len (s : State) : s.answered.len = s.len := rfl
@[simp] theorem State.answered_lit (s : State) : s.answered.lit = s.lit := rfl
@[simp] theorem State.answered_pdur (s : State) : s.answered.pdur = s.pdur := rfl
@[simp] theorem State.answered_pcnt (s : State) : s.answered.pcnt = s.pcnt := rfl
@[simp] theorem State.answered_pass (s : State) : s.answered.pass = s.pass := rfl
@[simp] theorem State.answered_row (s : State) : s.answered.row = s.row := rfl
@[simp] theorem State.answered_col (s : State) : s.answered.col = s.col := rfl
@[simp] theorem State.answered_fp (s : State) : s.answered.fp = s.fp := rfl
@[simp] theorem State.answered_st (s : State) : s.answered.st = s.st := rfl
@[simp] theorem State.answered_mode (s : State) : s.answered.mode = s.mode := rfl
@[simp] theorem State.answered_rowl (s : State) : s.answered.rowl = s.rowl := rfl
@[simp] theorem State.answered_coll (s : State) : s.answered.coll = s.coll := rfl
@[simp] theorem State.answered_done (s : State) : s.answered.done = s.done := rfl
@[simp] theorem State.answered_wpend (s : State) : s.answered.wpend = s.wpend := rfl
@[simp] theorem State.answered_fcause (s : State) : s.answered.fcause = s.fcause := rfl
@[simp] theorem State.answered_finfo (s : State) : s.answered.finfo = s.finfo := rfl
@[simp] theorem State.answered_mem (s : State) : s.answered.mem = s.mem := rfl
@[simp] theorem State.answered_trace (s : State) : s.answered.trace = s.trace := rfl
@[simp] theorem State.answered_csrRdata (s : State) : s.answered.csrRdata = s.csrRdata := rfl
@[simp] theorem State.answered_turns (s : State) : s.answered.turns = s.turns := rfl
@[simp] theorem State.answered_answers (s : State) : s.answered.answers = s.answers.tail := rfl
@[simp] theorem State.answered_draws (s : State) : s.answered.draws = if s.answers.isEmpty then s.draws + 1 else s.draws := rfl
@[simp] theorem State.answered_ticks (s : State) : s.answered.ticks = s.ticks := rfl

@[simp] theorem State.enterFault_frame (c : Cause) (info : UopCode) (s : State) : (State.enterFault c info s).frame = s.frame := rfl
@[simp] theorem State.enterFault_total (c : Cause) (info : UopCode) (s : State) : (State.enterFault c info s).total = s.total := rfl
@[simp] theorem State.enterFault_minp (c : Cause) (info : UopCode) (s : State) : (State.enterFault c info s).minp = s.minp := rfl
@[simp] theorem State.enterFault_fps (c : Cause) (info : UopCode) (s : State) : (State.enterFault c info s).fps = s.fps := rfl
@[simp] theorem State.enterFault_base (c : Cause) (info : UopCode) (s : State) : (State.enterFault c info s).base = s.base := rfl
@[simp] theorem State.enterFault_len (c : Cause) (info : UopCode) (s : State) : (State.enterFault c info s).len = s.len := rfl
@[simp] theorem State.enterFault_lit (c : Cause) (info : UopCode) (s : State) : (State.enterFault c info s).lit = s.lit := rfl
@[simp] theorem State.enterFault_pdur (c : Cause) (info : UopCode) (s : State) : (State.enterFault c info s).pdur = s.pdur := rfl
@[simp] theorem State.enterFault_pcnt (c : Cause) (info : UopCode) (s : State) : (State.enterFault c info s).pcnt = s.pcnt := rfl
@[simp] theorem State.enterFault_pass (c : Cause) (info : UopCode) (s : State) : (State.enterFault c info s).pass = s.pass := rfl
@[simp] theorem State.enterFault_row (c : Cause) (info : UopCode) (s : State) : (State.enterFault c info s).row = s.row := rfl
@[simp] theorem State.enterFault_col (c : Cause) (info : UopCode) (s : State) : (State.enterFault c info s).col = s.col := rfl
@[simp] theorem State.enterFault_fp (c : Cause) (info : UopCode) (s : State) : (State.enterFault c info s).fp = s.fp := rfl
@[simp] theorem State.enterFault_st (c : Cause) (info : UopCode) (s : State) : (State.enterFault c info s).st = .fault := rfl
@[simp] theorem State.enterFault_mode (c : Cause) (info : UopCode) (s : State) : (State.enterFault c info s).mode = s.mode := rfl
@[simp] theorem State.enterFault_rowl (c : Cause) (info : UopCode) (s : State) : (State.enterFault c info s).rowl = s.rowl := rfl
@[simp] theorem State.enterFault_coll (c : Cause) (info : UopCode) (s : State) : (State.enterFault c info s).coll = s.coll := rfl
@[simp] theorem State.enterFault_done (c : Cause) (info : UopCode) (s : State) : (State.enterFault c info s).done = s.done := rfl
@[simp] theorem State.enterFault_wpend (c : Cause) (info : UopCode) (s : State) : (State.enterFault c info s).wpend = false := rfl
@[simp] theorem State.enterFault_fcause (c : Cause) (info : UopCode) (s : State) : (State.enterFault c info s).fcause = c := rfl
@[simp] theorem State.enterFault_finfo (c : Cause) (info : UopCode) (s : State) : (State.enterFault c info s).finfo = info := rfl
@[simp] theorem State.enterFault_mem (c : Cause) (info : UopCode) (s : State) : (State.enterFault c info s).mem = s.mem := rfl
@[simp] theorem State.enterFault_trace (c : Cause) (info : UopCode) (s : State) : (State.enterFault c info s).trace = s.trace := rfl
@[simp] theorem State.enterFault_csrRdata (c : Cause) (info : UopCode) (s : State) : (State.enterFault c info s).csrRdata = s.csrRdata := rfl
@[simp] theorem State.enterFault_turns (c : Cause) (info : UopCode) (s : State) : (State.enterFault c info s).turns = s.turns := rfl
@[simp] theorem State.enterFault_answers (c : Cause) (info : UopCode) (s : State) : (State.enterFault c info s).answers = s.answers := rfl
@[simp] theorem State.enterFault_draws (c : Cause) (info : UopCode) (s : State) : (State.enterFault c info s).draws = s.draws := rfl
@[simp] theorem State.enterFault_ticks (c : Cause) (info : UopCode) (s : State) : (State.enterFault c info s).ticks = s.ticks := rfl

@[simp] theorem State.issueWait_frame (n : Word) (s : State) : (State.issueWait n s).frame = s.frame := rfl
@[simp] theorem State.issueWait_total (n : Word) (s : State) : (State.issueWait n s).total = s.total := rfl
@[simp] theorem State.issueWait_minp (n : Word) (s : State) : (State.issueWait n s).minp = s.minp := rfl
@[simp] theorem State.issueWait_fps (n : Word) (s : State) : (State.issueWait n s).fps = s.fps := rfl
@[simp] theorem State.issueWait_base (n : Word) (s : State) : (State.issueWait n s).base = s.base := rfl
@[simp] theorem State.issueWait_len (n : Word) (s : State) : (State.issueWait n s).len = s.len := rfl
@[simp] theorem State.issueWait_lit (n : Word) (s : State) : (State.issueWait n s).lit = s.lit := rfl
@[simp] theorem State.issueWait_pdur (n : Word) (s : State) : (State.issueWait n s).pdur = s.pdur := rfl
@[simp] theorem State.issueWait_pcnt (n : Word) (s : State) : (State.issueWait n s).pcnt = s.pcnt := rfl
@[simp] theorem State.issueWait_pass (n : Word) (s : State) : (State.issueWait n s).pass = s.pass := rfl
@[simp] theorem State.issueWait_row (n : Word) (s : State) : (State.issueWait n s).row = s.row := rfl
@[simp] theorem State.issueWait_col (n : Word) (s : State) : (State.issueWait n s).col = s.col := rfl
@[simp] theorem State.issueWait_fp (n : Word) (s : State) : (State.issueWait n s).fp = s.fp := rfl
@[simp] theorem State.issueWait_st (n : Word) (s : State) : (State.issueWait n s).st = s.st := rfl
@[simp] theorem State.issueWait_mode (n : Word) (s : State) : (State.issueWait n s).mode = s.mode := rfl
@[simp] theorem State.issueWait_rowl (n : Word) (s : State) : (State.issueWait n s).rowl = s.rowl := rfl
@[simp] theorem State.issueWait_coll (n : Word) (s : State) : (State.issueWait n s).coll = s.coll := rfl
@[simp] theorem State.issueWait_done (n : Word) (s : State) : (State.issueWait n s).done = s.done := rfl
@[simp] theorem State.issueWait_wpend (n : Word) (s : State) : (State.issueWait n s).wpend = true := rfl
@[simp] theorem State.issueWait_fcause (n : Word) (s : State) : (State.issueWait n s).fcause = s.fcause := rfl
@[simp] theorem State.issueWait_finfo (n : Word) (s : State) : (State.issueWait n s).finfo = s.finfo := rfl
@[simp] theorem State.issueWait_mem (n : Word) (s : State) : (State.issueWait n s).mem = s.mem := rfl
@[simp] theorem State.issueWait_trace (n : Word) (s : State) : (State.issueWait n s).trace = s.trace ++ [.waitUs n] := rfl
@[simp] theorem State.issueWait_csrRdata (n : Word) (s : State) : (State.issueWait n s).csrRdata = s.csrRdata := rfl
@[simp] theorem State.issueWait_turns (n : Word) (s : State) : (State.issueWait n s).turns = s.turns := rfl
@[simp] theorem State.issueWait_answers (n : Word) (s : State) : (State.issueWait n s).answers = s.answers := rfl
@[simp] theorem State.issueWait_draws (n : Word) (s : State) : (State.issueWait n s).draws = s.draws := rfl
@[simp] theorem State.issueWait_ticks (n : Word) (s : State) : (State.issueWait n s).ticks = s.ticks := rfl

@[simp] theorem State.completeDark_frame (s : State) : s.completeDark.frame = s.frame := rfl
@[simp] theorem State.completeDark_total (s : State) : s.completeDark.total = s.total := rfl
@[simp] theorem State.completeDark_minp (s : State) : s.completeDark.minp = s.minp := rfl
@[simp] theorem State.completeDark_fps (s : State) : s.completeDark.fps = s.fps := rfl
@[simp] theorem State.completeDark_base (s : State) : s.completeDark.base = s.base := rfl
@[simp] theorem State.completeDark_len (s : State) : s.completeDark.len = s.len := rfl
@[simp] theorem State.completeDark_lit (s : State) : s.completeDark.lit = s.lit := rfl
@[simp] theorem State.completeDark_pdur (s : State) : s.completeDark.pdur = s.pdur := rfl
@[simp] theorem State.completeDark_pcnt (s : State) : s.completeDark.pcnt = s.pcnt := rfl
@[simp] theorem State.completeDark_pass (s : State) : s.completeDark.pass = s.pass := rfl
@[simp] theorem State.completeDark_row (s : State) : s.completeDark.row = s.row := rfl
@[simp] theorem State.completeDark_col (s : State) : s.completeDark.col = s.col := rfl
@[simp] theorem State.completeDark_fp (s : State) : s.completeDark.fp = s.fp := rfl
@[simp] theorem State.completeDark_st (s : State) : s.completeDark.st = .done := rfl
@[simp] theorem State.completeDark_mode (s : State) : s.completeDark.mode = s.mode := rfl
@[simp] theorem State.completeDark_rowl (s : State) : s.completeDark.rowl = s.rowl := rfl
@[simp] theorem State.completeDark_coll (s : State) : s.completeDark.coll = s.coll := rfl
@[simp] theorem State.completeDark_done (s : State) : s.completeDark.done = s.done := rfl
@[simp] theorem State.completeDark_wpend (s : State) : s.completeDark.wpend = false := rfl
@[simp] theorem State.completeDark_fcause (s : State) : s.completeDark.fcause = s.fcause := rfl
@[simp] theorem State.completeDark_finfo (s : State) : s.completeDark.finfo = s.finfo := rfl
@[simp] theorem State.completeDark_mem (s : State) : s.completeDark.mem = s.mem := rfl
@[simp] theorem State.completeDark_trace (s : State) : s.completeDark.trace = s.trace := rfl
@[simp] theorem State.completeDark_csrRdata (s : State) : s.completeDark.csrRdata = s.csrRdata := rfl
@[simp] theorem State.completeDark_turns (s : State) : s.completeDark.turns = s.turns := rfl
@[simp] theorem State.completeDark_answers (s : State) : s.completeDark.answers = s.answers := rfl
@[simp] theorem State.completeDark_draws (s : State) : s.completeDark.draws = s.draws := rfl
@[simp] theorem State.completeDark_ticks (s : State) : s.completeDark.ticks = s.ticks := rfl

@[simp] theorem State.completePulse_frame (s : State) : s.completePulse.frame = s.frame := rfl
@[simp] theorem State.completePulse_total (s : State) : s.completePulse.total = s.total := rfl
@[simp] theorem State.completePulse_minp (s : State) : s.completePulse.minp = s.minp := rfl
@[simp] theorem State.completePulse_fps (s : State) : s.completePulse.fps = s.fps := rfl
@[simp] theorem State.completePulse_base (s : State) : s.completePulse.base = s.base := rfl
@[simp] theorem State.completePulse_len (s : State) : s.completePulse.len = s.len := rfl
@[simp] theorem State.completePulse_lit (s : State) : s.completePulse.lit = s.lit := rfl
@[simp] theorem State.completePulse_pdur (s : State) : s.completePulse.pdur = s.pdur := rfl
@[simp] theorem State.completePulse_pcnt (s : State) : s.completePulse.pcnt = s.pcnt := rfl
@[simp] theorem State.completePulse_pass (s : State) : s.completePulse.pass = s.pass := rfl
@[simp] theorem State.completePulse_row (s : State) : s.completePulse.row = s.row := rfl
@[simp] theorem State.completePulse_col (s : State) : s.completePulse.col = s.col := rfl
@[simp] theorem State.completePulse_fp (s : State) : s.completePulse.fp = s.fp := rfl
@[simp] theorem State.completePulse_st (s : State) : s.completePulse.st = .colOff := rfl
@[simp] theorem State.completePulse_mode (s : State) : s.completePulse.mode = s.mode := rfl
@[simp] theorem State.completePulse_rowl (s : State) : s.completePulse.rowl = s.rowl := rfl
@[simp] theorem State.completePulse_coll (s : State) : s.completePulse.coll = s.coll := rfl
@[simp] theorem State.completePulse_done (s : State) : s.completePulse.done = s.done := rfl
@[simp] theorem State.completePulse_wpend (s : State) : s.completePulse.wpend = false := rfl
@[simp] theorem State.completePulse_fcause (s : State) : s.completePulse.fcause = s.fcause := rfl
@[simp] theorem State.completePulse_finfo (s : State) : s.completePulse.finfo = s.finfo := rfl
@[simp] theorem State.completePulse_mem (s : State) : s.completePulse.mem = s.mem := rfl
@[simp] theorem State.completePulse_trace (s : State) : s.completePulse.trace = s.trace := rfl
@[simp] theorem State.completePulse_csrRdata (s : State) : s.completePulse.csrRdata = s.csrRdata := rfl
@[simp] theorem State.completePulse_turns (s : State) : s.completePulse.turns = s.turns := rfl
@[simp] theorem State.completePulse_answers (s : State) : s.completePulse.answers = s.answers := rfl
@[simp] theorem State.completePulse_draws (s : State) : s.completePulse.draws = s.draws := rfl
@[simp] theorem State.completePulse_ticks (s : State) : s.completePulse.ticks = s.ticks := rfl

@[simp] theorem State.normalize_frame (s : State) : s.normalize.frame = s.frame := by rw [State.normalize]
@[simp] theorem State.normalize_total (s : State) : s.normalize.total = s.total := by rw [State.normalize]
@[simp] theorem State.normalize_minp (s : State) : s.normalize.minp = s.minp := by rw [State.normalize]
@[simp] theorem State.normalize_fps (s : State) : s.normalize.fps = s.fps := by rw [State.normalize]
@[simp] theorem State.normalize_base (s : State) : s.normalize.base = s.base := by rw [State.normalize]
@[simp] theorem State.normalize_len (s : State) : s.normalize.len = s.len := by rw [State.normalize]
@[simp] theorem State.normalize_lit (s : State) : s.normalize.lit = litcount s.frame := by rw [State.normalize]
@[simp] theorem State.normalize_pdur (s : State) : s.normalize.pdur = normPdur s.frame s.minp := by rw [State.normalize]
@[simp] theorem State.normalize_pcnt (s : State) : s.normalize.pcnt = normPcnt s.frame s.total s.minp := by rw [State.normalize]
@[simp] theorem State.normalize_pass (s : State) : s.normalize.pass = 0 := by rw [State.normalize]
@[simp] theorem State.normalize_row (s : State) : s.normalize.row = 0 := by rw [State.normalize]
@[simp] theorem State.normalize_col (s : State) : s.normalize.col = 0 := by rw [State.normalize]
@[simp] theorem State.normalize_fp (s : State) : s.normalize.fp = s.fp := by rw [State.normalize]
@[simp] theorem State.normalize_st (s : State) : s.normalize.st = normNext s.frame s.total s.minp := by rw [State.normalize]
@[simp] theorem State.normalize_mode (s : State) : s.normalize.mode = s.mode := by rw [State.normalize]
@[simp] theorem State.normalize_rowl (s : State) : s.normalize.rowl = s.rowl := by rw [State.normalize]
@[simp] theorem State.normalize_coll (s : State) : s.normalize.coll = s.coll := by rw [State.normalize]
@[simp] theorem State.normalize_done (s : State) : s.normalize.done = s.done := by rw [State.normalize]
@[simp] theorem State.normalize_wpend (s : State) : s.normalize.wpend = s.wpend := by rw [State.normalize]
@[simp] theorem State.normalize_fcause (s : State) : s.normalize.fcause = s.fcause := by rw [State.normalize]
@[simp] theorem State.normalize_finfo (s : State) : s.normalize.finfo = s.finfo := by rw [State.normalize]
@[simp] theorem State.normalize_mem (s : State) : s.normalize.mem = s.mem := by rw [State.normalize]
@[simp] theorem State.normalize_trace (s : State) : s.normalize.trace = s.trace := by rw [State.normalize]
@[simp] theorem State.normalize_csrRdata (s : State) : s.normalize.csrRdata = s.csrRdata := by rw [State.normalize]
@[simp] theorem State.normalize_turns (s : State) : s.normalize.turns = s.turns := by rw [State.normalize]
@[simp] theorem State.normalize_answers (s : State) : s.normalize.answers = s.answers := by rw [State.normalize]
@[simp] theorem State.normalize_draws (s : State) : s.normalize.draws = s.draws := by rw [State.normalize]
@[simp] theorem State.normalize_ticks (s : State) : s.normalize.ticks = s.ticks := by rw [State.normalize]

@[simp] theorem State.fetched_frame (w : FrameWord) (s : State) : (State.fetched w s).frame = w := rfl
@[simp] theorem State.fetched_total (w : FrameWord) (s : State) : (State.fetched w s).total = budget s.fps := rfl
@[simp] theorem State.fetched_minp (w : FrameWord) (s : State) : (State.fetched w s).minp = s.minp := rfl
@[simp] theorem State.fetched_fps (w : FrameWord) (s : State) : (State.fetched w s).fps = s.fps := rfl
@[simp] theorem State.fetched_base (w : FrameWord) (s : State) : (State.fetched w s).base = s.base := rfl
@[simp] theorem State.fetched_len (w : FrameWord) (s : State) : (State.fetched w s).len = s.len := rfl
@[simp] theorem State.fetched_lit (w : FrameWord) (s : State) : (State.fetched w s).lit = s.lit := rfl
@[simp] theorem State.fetched_pdur (w : FrameWord) (s : State) : (State.fetched w s).pdur = s.pdur := rfl
@[simp] theorem State.fetched_pcnt (w : FrameWord) (s : State) : (State.fetched w s).pcnt = s.pcnt := rfl
@[simp] theorem State.fetched_pass (w : FrameWord) (s : State) : (State.fetched w s).pass = s.pass := rfl
@[simp] theorem State.fetched_row (w : FrameWord) (s : State) : (State.fetched w s).row = s.row := rfl
@[simp] theorem State.fetched_col (w : FrameWord) (s : State) : (State.fetched w s).col = s.col := rfl
@[simp] theorem State.fetched_fp (w : FrameWord) (s : State) : (State.fetched w s).fp = s.fp := rfl
@[simp] theorem State.fetched_st (w : FrameWord) (s : State) : (State.fetched w s).st = .norm := rfl
@[simp] theorem State.fetched_mode (w : FrameWord) (s : State) : (State.fetched w s).mode = s.mode := rfl
@[simp] theorem State.fetched_rowl (w : FrameWord) (s : State) : (State.fetched w s).rowl = s.rowl := rfl
@[simp] theorem State.fetched_coll (w : FrameWord) (s : State) : (State.fetched w s).coll = s.coll := rfl
@[simp] theorem State.fetched_done (w : FrameWord) (s : State) : (State.fetched w s).done = s.done := rfl
@[simp] theorem State.fetched_wpend (w : FrameWord) (s : State) : (State.fetched w s).wpend = s.wpend := rfl
@[simp] theorem State.fetched_fcause (w : FrameWord) (s : State) : (State.fetched w s).fcause = s.fcause := rfl
@[simp] theorem State.fetched_finfo (w : FrameWord) (s : State) : (State.fetched w s).finfo = s.finfo := rfl
@[simp] theorem State.fetched_mem (w : FrameWord) (s : State) : (State.fetched w s).mem = s.mem := rfl
@[simp] theorem State.fetched_trace (w : FrameWord) (s : State) : (State.fetched w s).trace = s.trace := rfl
@[simp] theorem State.fetched_csrRdata (w : FrameWord) (s : State) : (State.fetched w s).csrRdata = s.csrRdata := rfl
@[simp] theorem State.fetched_turns (w : FrameWord) (s : State) : (State.fetched w s).turns = s.turns := rfl
@[simp] theorem State.fetched_answers (w : FrameWord) (s : State) : (State.fetched w s).answers = s.answers := rfl
@[simp] theorem State.fetched_draws (w : FrameWord) (s : State) : (State.fetched w s).draws = s.draws := rfl
@[simp] theorem State.fetched_ticks (w : FrameWord) (s : State) : (State.fetched w s).ticks = s.ticks := rfl

@[simp] theorem State.returnOneShot_frame (s : State) : s.returnOneShot.frame = s.frame := rfl
@[simp] theorem State.returnOneShot_total (s : State) : s.returnOneShot.total = s.total := rfl
@[simp] theorem State.returnOneShot_minp (s : State) : s.returnOneShot.minp = s.minp := rfl
@[simp] theorem State.returnOneShot_fps (s : State) : s.returnOneShot.fps = s.fps := rfl
@[simp] theorem State.returnOneShot_base (s : State) : s.returnOneShot.base = s.base := rfl
@[simp] theorem State.returnOneShot_len (s : State) : s.returnOneShot.len = s.len := rfl
@[simp] theorem State.returnOneShot_lit (s : State) : s.returnOneShot.lit = s.lit := rfl
@[simp] theorem State.returnOneShot_pdur (s : State) : s.returnOneShot.pdur = s.pdur := rfl
@[simp] theorem State.returnOneShot_pcnt (s : State) : s.returnOneShot.pcnt = s.pcnt := rfl
@[simp] theorem State.returnOneShot_pass (s : State) : s.returnOneShot.pass = s.pass := rfl
@[simp] theorem State.returnOneShot_row (s : State) : s.returnOneShot.row = s.row := rfl
@[simp] theorem State.returnOneShot_col (s : State) : s.returnOneShot.col = s.col := rfl
@[simp] theorem State.returnOneShot_fp (s : State) : s.returnOneShot.fp = s.fp := rfl
@[simp] theorem State.returnOneShot_st (s : State) : s.returnOneShot.st = .idle := rfl
@[simp] theorem State.returnOneShot_mode (s : State) : s.returnOneShot.mode = s.mode := rfl
@[simp] theorem State.returnOneShot_rowl (s : State) : s.returnOneShot.rowl = s.rowl := rfl
@[simp] theorem State.returnOneShot_coll (s : State) : s.returnOneShot.coll = s.coll := rfl
@[simp] theorem State.returnOneShot_done (s : State) : s.returnOneShot.done = true := rfl
@[simp] theorem State.returnOneShot_wpend (s : State) : s.returnOneShot.wpend = s.wpend := rfl
@[simp] theorem State.returnOneShot_fcause (s : State) : s.returnOneShot.fcause = s.fcause := rfl
@[simp] theorem State.returnOneShot_finfo (s : State) : s.returnOneShot.finfo = s.finfo := rfl
@[simp] theorem State.returnOneShot_mem (s : State) : s.returnOneShot.mem = s.mem := rfl
@[simp] theorem State.returnOneShot_trace (s : State) : s.returnOneShot.trace = s.trace := rfl
@[simp] theorem State.returnOneShot_csrRdata (s : State) : s.returnOneShot.csrRdata = s.csrRdata := rfl
@[simp] theorem State.returnOneShot_turns (s : State) : s.returnOneShot.turns = s.turns := rfl
@[simp] theorem State.returnOneShot_answers (s : State) : s.returnOneShot.answers = s.answers := rfl
@[simp] theorem State.returnOneShot_draws (s : State) : s.returnOneShot.draws = s.draws := rfl
@[simp] theorem State.returnOneShot_ticks (s : State) : s.returnOneShot.ticks = s.ticks := rfl

@[simp] theorem State.advanceFrame_frame (s : State) : s.advanceFrame.frame = s.frame := rfl
@[simp] theorem State.advanceFrame_total (s : State) : s.advanceFrame.total = s.total := rfl
@[simp] theorem State.advanceFrame_minp (s : State) : s.advanceFrame.minp = s.minp := rfl
@[simp] theorem State.advanceFrame_fps (s : State) : s.advanceFrame.fps = s.fps := rfl
@[simp] theorem State.advanceFrame_base (s : State) : s.advanceFrame.base = s.base := rfl
@[simp] theorem State.advanceFrame_len (s : State) : s.advanceFrame.len = s.len := rfl
@[simp] theorem State.advanceFrame_lit (s : State) : s.advanceFrame.lit = s.lit := rfl
@[simp] theorem State.advanceFrame_pdur (s : State) : s.advanceFrame.pdur = s.pdur := rfl
@[simp] theorem State.advanceFrame_pcnt (s : State) : s.advanceFrame.pcnt = s.pcnt := rfl
@[simp] theorem State.advanceFrame_pass (s : State) : s.advanceFrame.pass = s.pass := rfl
@[simp] theorem State.advanceFrame_row (s : State) : s.advanceFrame.row = s.row := rfl
@[simp] theorem State.advanceFrame_col (s : State) : s.advanceFrame.col = s.col := rfl
@[simp] theorem State.advanceFrame_fp (s : State) : s.advanceFrame.fp = fpNext s.fp s.len := rfl
@[simp] theorem State.advanceFrame_st (s : State) : s.advanceFrame.st = .fetch := rfl
@[simp] theorem State.advanceFrame_mode (s : State) : s.advanceFrame.mode = s.mode := rfl
@[simp] theorem State.advanceFrame_rowl (s : State) : s.advanceFrame.rowl = s.rowl := rfl
@[simp] theorem State.advanceFrame_coll (s : State) : s.advanceFrame.coll = s.coll := rfl
@[simp] theorem State.advanceFrame_done (s : State) : s.advanceFrame.done = s.done := rfl
@[simp] theorem State.advanceFrame_wpend (s : State) : s.advanceFrame.wpend = s.wpend := rfl
@[simp] theorem State.advanceFrame_fcause (s : State) : s.advanceFrame.fcause = s.fcause := rfl
@[simp] theorem State.advanceFrame_finfo (s : State) : s.advanceFrame.finfo = s.finfo := rfl
@[simp] theorem State.advanceFrame_mem (s : State) : s.advanceFrame.mem = s.mem := rfl
@[simp] theorem State.advanceFrame_trace (s : State) : s.advanceFrame.trace = s.trace := rfl
@[simp] theorem State.advanceFrame_csrRdata (s : State) : s.advanceFrame.csrRdata = s.csrRdata := rfl
@[simp] theorem State.advanceFrame_turns (s : State) : s.advanceFrame.turns = s.turns := rfl
@[simp] theorem State.advanceFrame_answers (s : State) : s.advanceFrame.answers = s.answers := rfl
@[simp] theorem State.advanceFrame_draws (s : State) : s.advanceFrame.draws = s.draws := rfl
@[simp] theorem State.advanceFrame_ticks (s : State) : s.advanceFrame.ticks = s.ticks := rfl

@[simp] theorem State.clearDone_frame (s : State) : s.clearDone.frame = s.frame := rfl
@[simp] theorem State.clearDone_total (s : State) : s.clearDone.total = s.total := rfl
@[simp] theorem State.clearDone_minp (s : State) : s.clearDone.minp = s.minp := rfl
@[simp] theorem State.clearDone_fps (s : State) : s.clearDone.fps = s.fps := rfl
@[simp] theorem State.clearDone_base (s : State) : s.clearDone.base = s.base := rfl
@[simp] theorem State.clearDone_len (s : State) : s.clearDone.len = s.len := rfl
@[simp] theorem State.clearDone_lit (s : State) : s.clearDone.lit = s.lit := rfl
@[simp] theorem State.clearDone_pdur (s : State) : s.clearDone.pdur = s.pdur := rfl
@[simp] theorem State.clearDone_pcnt (s : State) : s.clearDone.pcnt = s.pcnt := rfl
@[simp] theorem State.clearDone_pass (s : State) : s.clearDone.pass = s.pass := rfl
@[simp] theorem State.clearDone_row (s : State) : s.clearDone.row = s.row := rfl
@[simp] theorem State.clearDone_col (s : State) : s.clearDone.col = s.col := rfl
@[simp] theorem State.clearDone_fp (s : State) : s.clearDone.fp = s.fp := rfl
@[simp] theorem State.clearDone_st (s : State) : s.clearDone.st = s.st := rfl
@[simp] theorem State.clearDone_mode (s : State) : s.clearDone.mode = s.mode := rfl
@[simp] theorem State.clearDone_rowl (s : State) : s.clearDone.rowl = s.rowl := rfl
@[simp] theorem State.clearDone_coll (s : State) : s.clearDone.coll = s.coll := rfl
@[simp] theorem State.clearDone_done (s : State) : s.clearDone.done = false := rfl
@[simp] theorem State.clearDone_wpend (s : State) : s.clearDone.wpend = s.wpend := rfl
@[simp] theorem State.clearDone_fcause (s : State) : s.clearDone.fcause = s.fcause := rfl
@[simp] theorem State.clearDone_finfo (s : State) : s.clearDone.finfo = s.finfo := rfl
@[simp] theorem State.clearDone_mem (s : State) : s.clearDone.mem = s.mem := rfl
@[simp] theorem State.clearDone_trace (s : State) : s.clearDone.trace = s.trace := rfl
@[simp] theorem State.clearDone_csrRdata (s : State) : s.clearDone.csrRdata = s.csrRdata := rfl
@[simp] theorem State.clearDone_turns (s : State) : s.clearDone.turns = s.turns := rfl
@[simp] theorem State.clearDone_answers (s : State) : s.clearDone.answers = s.answers := rfl
@[simp] theorem State.clearDone_draws (s : State) : s.clearDone.draws = s.draws := rfl
@[simp] theorem State.clearDone_ticks (s : State) : s.clearDone.ticks = s.ticks := rfl

@[simp] theorem State.startRender_frame (s : State) : s.startRender.frame = s.frame := rfl
@[simp] theorem State.startRender_total (s : State) : s.startRender.total = s.total := rfl
@[simp] theorem State.startRender_minp (s : State) : s.startRender.minp = s.minp := rfl
@[simp] theorem State.startRender_fps (s : State) : s.startRender.fps = s.fps := rfl
@[simp] theorem State.startRender_base (s : State) : s.startRender.base = s.base := rfl
@[simp] theorem State.startRender_len (s : State) : s.startRender.len = s.len := rfl
@[simp] theorem State.startRender_lit (s : State) : s.startRender.lit = s.lit := rfl
@[simp] theorem State.startRender_pdur (s : State) : s.startRender.pdur = s.pdur := rfl
@[simp] theorem State.startRender_pcnt (s : State) : s.startRender.pcnt = s.pcnt := rfl
@[simp] theorem State.startRender_pass (s : State) : s.startRender.pass = s.pass := rfl
@[simp] theorem State.startRender_row (s : State) : s.startRender.row = s.row := rfl
@[simp] theorem State.startRender_col (s : State) : s.startRender.col = s.col := rfl
@[simp] theorem State.startRender_fp (s : State) : s.startRender.fp = s.fp := rfl
@[simp] theorem State.startRender_st (s : State) : s.startRender.st = .norm := rfl
@[simp] theorem State.startRender_mode (s : State) : s.startRender.mode = .oneShot := rfl
@[simp] theorem State.startRender_rowl (s : State) : s.startRender.rowl = s.rowl := rfl
@[simp] theorem State.startRender_coll (s : State) : s.startRender.coll = s.coll := rfl
@[simp] theorem State.startRender_done (s : State) : s.startRender.done = s.done := rfl
@[simp] theorem State.startRender_wpend (s : State) : s.startRender.wpend = s.wpend := rfl
@[simp] theorem State.startRender_fcause (s : State) : s.startRender.fcause = s.fcause := rfl
@[simp] theorem State.startRender_finfo (s : State) : s.startRender.finfo = s.finfo := rfl
@[simp] theorem State.startRender_mem (s : State) : s.startRender.mem = s.mem := rfl
@[simp] theorem State.startRender_trace (s : State) : s.startRender.trace = s.trace := rfl
@[simp] theorem State.startRender_csrRdata (s : State) : s.startRender.csrRdata = s.csrRdata := rfl
@[simp] theorem State.startRender_turns (s : State) : s.startRender.turns = s.turns := rfl
@[simp] theorem State.startRender_answers (s : State) : s.startRender.answers = s.answers := rfl
@[simp] theorem State.startRender_draws (s : State) : s.startRender.draws = s.draws := rfl
@[simp] theorem State.startRender_ticks (s : State) : s.startRender.ticks = s.ticks := rfl

@[simp] theorem State.startPlay_frame (s : State) : s.startPlay.frame = s.frame := rfl
@[simp] theorem State.startPlay_total (s : State) : s.startPlay.total = s.total := rfl
@[simp] theorem State.startPlay_minp (s : State) : s.startPlay.minp = s.minp := rfl
@[simp] theorem State.startPlay_fps (s : State) : s.startPlay.fps = s.fps := rfl
@[simp] theorem State.startPlay_base (s : State) : s.startPlay.base = s.base := rfl
@[simp] theorem State.startPlay_len (s : State) : s.startPlay.len = s.len := rfl
@[simp] theorem State.startPlay_lit (s : State) : s.startPlay.lit = s.lit := rfl
@[simp] theorem State.startPlay_pdur (s : State) : s.startPlay.pdur = s.pdur := rfl
@[simp] theorem State.startPlay_pcnt (s : State) : s.startPlay.pcnt = s.pcnt := rfl
@[simp] theorem State.startPlay_pass (s : State) : s.startPlay.pass = s.pass := rfl
@[simp] theorem State.startPlay_row (s : State) : s.startPlay.row = s.row := rfl
@[simp] theorem State.startPlay_col (s : State) : s.startPlay.col = s.col := rfl
@[simp] theorem State.startPlay_fp (s : State) : s.startPlay.fp = 0 := rfl
@[simp] theorem State.startPlay_st (s : State) : s.startPlay.st = .fetch := rfl
@[simp] theorem State.startPlay_mode (s : State) : s.startPlay.mode = .play := rfl
@[simp] theorem State.startPlay_rowl (s : State) : s.startPlay.rowl = s.rowl := rfl
@[simp] theorem State.startPlay_coll (s : State) : s.startPlay.coll = s.coll := rfl
@[simp] theorem State.startPlay_done (s : State) : s.startPlay.done = s.done := rfl
@[simp] theorem State.startPlay_wpend (s : State) : s.startPlay.wpend = s.wpend := rfl
@[simp] theorem State.startPlay_fcause (s : State) : s.startPlay.fcause = s.fcause := rfl
@[simp] theorem State.startPlay_finfo (s : State) : s.startPlay.finfo = s.finfo := rfl
@[simp] theorem State.startPlay_mem (s : State) : s.startPlay.mem = s.mem := rfl
@[simp] theorem State.startPlay_trace (s : State) : s.startPlay.trace = s.trace := rfl
@[simp] theorem State.startPlay_csrRdata (s : State) : s.startPlay.csrRdata = s.csrRdata := rfl
@[simp] theorem State.startPlay_turns (s : State) : s.startPlay.turns = s.turns := rfl
@[simp] theorem State.startPlay_answers (s : State) : s.startPlay.answers = s.answers := rfl
@[simp] theorem State.startPlay_draws (s : State) : s.startPlay.draws = s.draws := rfl
@[simp] theorem State.startPlay_ticks (s : State) : s.startPlay.ticks = s.ticks := rfl

@[simp] theorem State.turnTaken_frame (s : State) : s.turnTaken.frame = s.frame := rfl
@[simp] theorem State.turnTaken_total (s : State) : s.turnTaken.total = s.total := rfl
@[simp] theorem State.turnTaken_minp (s : State) : s.turnTaken.minp = s.minp := rfl
@[simp] theorem State.turnTaken_fps (s : State) : s.turnTaken.fps = s.fps := rfl
@[simp] theorem State.turnTaken_base (s : State) : s.turnTaken.base = s.base := rfl
@[simp] theorem State.turnTaken_len (s : State) : s.turnTaken.len = s.len := rfl
@[simp] theorem State.turnTaken_lit (s : State) : s.turnTaken.lit = s.lit := rfl
@[simp] theorem State.turnTaken_pdur (s : State) : s.turnTaken.pdur = s.pdur := rfl
@[simp] theorem State.turnTaken_pcnt (s : State) : s.turnTaken.pcnt = s.pcnt := rfl
@[simp] theorem State.turnTaken_pass (s : State) : s.turnTaken.pass = s.pass := rfl
@[simp] theorem State.turnTaken_row (s : State) : s.turnTaken.row = s.row := rfl
@[simp] theorem State.turnTaken_col (s : State) : s.turnTaken.col = s.col := rfl
@[simp] theorem State.turnTaken_fp (s : State) : s.turnTaken.fp = s.fp := rfl
@[simp] theorem State.turnTaken_st (s : State) : s.turnTaken.st = s.st := rfl
@[simp] theorem State.turnTaken_mode (s : State) : s.turnTaken.mode = s.mode := rfl
@[simp] theorem State.turnTaken_rowl (s : State) : s.turnTaken.rowl = s.rowl := rfl
@[simp] theorem State.turnTaken_coll (s : State) : s.turnTaken.coll = s.coll := rfl
@[simp] theorem State.turnTaken_done (s : State) : s.turnTaken.done = s.done := rfl
@[simp] theorem State.turnTaken_wpend (s : State) : s.turnTaken.wpend = s.wpend := rfl
@[simp] theorem State.turnTaken_fcause (s : State) : s.turnTaken.fcause = s.fcause := rfl
@[simp] theorem State.turnTaken_finfo (s : State) : s.turnTaken.finfo = s.finfo := rfl
@[simp] theorem State.turnTaken_mem (s : State) : s.turnTaken.mem = s.mem := rfl
@[simp] theorem State.turnTaken_trace (s : State) : s.turnTaken.trace = s.trace := rfl
@[simp] theorem State.turnTaken_csrRdata (s : State) : s.turnTaken.csrRdata = s.csrRdata := rfl
@[simp] theorem State.turnTaken_turns (s : State) : s.turnTaken.turns = s.turns.tail := rfl
@[simp] theorem State.turnTaken_answers (s : State) : s.turnTaken.answers = s.answers := rfl
@[simp] theorem State.turnTaken_draws (s : State) : s.turnTaken.draws = s.draws := rfl
@[simp] theorem State.turnTaken_ticks (s : State) : s.turnTaken.ticks = s.ticks + 1 := rfl

@[simp] theorem State.resetBlock_frame (s : State) : s.resetBlock.frame = State.reset.frame := rfl
@[simp] theorem State.resetBlock_total (s : State) : s.resetBlock.total = State.reset.total := rfl
@[simp] theorem State.resetBlock_minp (s : State) : s.resetBlock.minp = State.reset.minp := rfl
@[simp] theorem State.resetBlock_fps (s : State) : s.resetBlock.fps = State.reset.fps := rfl
@[simp] theorem State.resetBlock_base (s : State) : s.resetBlock.base = State.reset.base := rfl
@[simp] theorem State.resetBlock_len (s : State) : s.resetBlock.len = State.reset.len := rfl
@[simp] theorem State.resetBlock_lit (s : State) : s.resetBlock.lit = State.reset.lit := rfl
@[simp] theorem State.resetBlock_pdur (s : State) : s.resetBlock.pdur = State.reset.pdur := rfl
@[simp] theorem State.resetBlock_pcnt (s : State) : s.resetBlock.pcnt = State.reset.pcnt := rfl
@[simp] theorem State.resetBlock_pass (s : State) : s.resetBlock.pass = State.reset.pass := rfl
@[simp] theorem State.resetBlock_row (s : State) : s.resetBlock.row = State.reset.row := rfl
@[simp] theorem State.resetBlock_col (s : State) : s.resetBlock.col = State.reset.col := rfl
@[simp] theorem State.resetBlock_fp (s : State) : s.resetBlock.fp = State.reset.fp := rfl
@[simp] theorem State.resetBlock_st (s : State) : s.resetBlock.st = State.reset.st := rfl
@[simp] theorem State.resetBlock_mode (s : State) : s.resetBlock.mode = State.reset.mode := rfl
@[simp] theorem State.resetBlock_rowl (s : State) : s.resetBlock.rowl = State.reset.rowl := rfl
@[simp] theorem State.resetBlock_coll (s : State) : s.resetBlock.coll = State.reset.coll := rfl
@[simp] theorem State.resetBlock_done (s : State) : s.resetBlock.done = State.reset.done := rfl
@[simp] theorem State.resetBlock_wpend (s : State) : s.resetBlock.wpend = State.reset.wpend := rfl
@[simp] theorem State.resetBlock_fcause (s : State) : s.resetBlock.fcause = State.reset.fcause := rfl
@[simp] theorem State.resetBlock_finfo (s : State) : s.resetBlock.finfo = State.reset.finfo := rfl
@[simp] theorem State.resetBlock_mem (s : State) : s.resetBlock.mem = s.mem := rfl
@[simp] theorem State.resetBlock_trace (s : State) : s.resetBlock.trace = State.reset.trace := rfl
@[simp] theorem State.resetBlock_csrRdata (s : State) : s.resetBlock.csrRdata = State.reset.csrRdata := rfl
@[simp] theorem State.resetBlock_turns (s : State) : s.resetBlock.turns = s.turns := rfl
@[simp] theorem State.resetBlock_answers (s : State) : s.resetBlock.answers = s.answers := rfl
@[simp] theorem State.resetBlock_draws (s : State) : s.resetBlock.draws = s.draws := rfl
@[simp] theorem State.resetBlock_ticks (s : State) : s.resetBlock.ticks = s.ticks := rfl

@[simp] theorem State.drive_frame (op : LineOp) (s : State) : (State.drive op s).frame = s.frame := by cases op <;> rfl
@[simp] theorem State.drive_total (op : LineOp) (s : State) : (State.drive op s).total = s.total := by cases op <;> rfl
@[simp] theorem State.drive_minp (op : LineOp) (s : State) : (State.drive op s).minp = s.minp := by cases op <;> rfl
@[simp] theorem State.drive_fps (op : LineOp) (s : State) : (State.drive op s).fps = s.fps := by cases op <;> rfl
@[simp] theorem State.drive_base (op : LineOp) (s : State) : (State.drive op s).base = s.base := by cases op <;> rfl
@[simp] theorem State.drive_len (op : LineOp) (s : State) : (State.drive op s).len = s.len := by cases op <;> rfl
@[simp] theorem State.drive_lit (op : LineOp) (s : State) : (State.drive op s).lit = s.lit := by cases op <;> rfl
@[simp] theorem State.drive_pdur (op : LineOp) (s : State) : (State.drive op s).pdur = s.pdur := by cases op <;> rfl
@[simp] theorem State.drive_pcnt (op : LineOp) (s : State) : (State.drive op s).pcnt = s.pcnt := by cases op <;> rfl
@[simp] theorem State.drive_pass (op : LineOp) (s : State) : (State.drive op s).pass = s.pass := by cases op <;> rfl
@[simp] theorem State.drive_row (op : LineOp) (s : State) : (State.drive op s).row = s.row := by cases op <;> rfl
@[simp] theorem State.drive_col (op : LineOp) (s : State) : (State.drive op s).col = s.col := by cases op <;> rfl
@[simp] theorem State.drive_fp (op : LineOp) (s : State) : (State.drive op s).fp = s.fp := by cases op <;> rfl
@[simp] theorem State.drive_st (op : LineOp) (s : State) : (State.drive op s).st = s.st := by cases op <;> rfl
@[simp] theorem State.drive_mode (op : LineOp) (s : State) : (State.drive op s).mode = s.mode := by cases op <;> rfl
@[simp] theorem State.drive_done (op : LineOp) (s : State) : (State.drive op s).done = s.done := by cases op <;> rfl
@[simp] theorem State.drive_wpend (op : LineOp) (s : State) : (State.drive op s).wpend = s.wpend := by cases op <;> rfl
@[simp] theorem State.drive_fcause (op : LineOp) (s : State) : (State.drive op s).fcause = s.fcause := by cases op <;> rfl
@[simp] theorem State.drive_finfo (op : LineOp) (s : State) : (State.drive op s).finfo = s.finfo := by cases op <;> rfl
@[simp] theorem State.drive_mem (op : LineOp) (s : State) : (State.drive op s).mem = s.mem := by cases op <;> rfl
@[simp] theorem State.drive_trace (op : LineOp) (s : State) : (State.drive op s).trace = s.trace := by cases op <;> rfl
@[simp] theorem State.drive_csrRdata (op : LineOp) (s : State) : (State.drive op s).csrRdata = s.csrRdata := by cases op <;> rfl
@[simp] theorem State.drive_turns (op : LineOp) (s : State) : (State.drive op s).turns = s.turns := by cases op <;> rfl
@[simp] theorem State.drive_answers (op : LineOp) (s : State) : (State.drive op s).answers = s.answers := by cases op <;> rfl
@[simp] theorem State.drive_draws (op : LineOp) (s : State) : (State.drive op s).draws = s.draws := by cases op <;> rfl
@[simp] theorem State.drive_ticks (op : LineOp) (s : State) : (State.drive op s).ticks = s.ticks := by cases op <;> rfl

end Sys2Proof.Machine
end

