-- ==== Sys2Proof/Laws/Normalizer.lean ====
section
/-! SUPPORT. What S_NORM can write to `ST` and `PCNT`, once. -/

namespace Sys2Proof.Machine

/-- A dark frame goes to the dark wait with no pass; a lit one returns at once with no pass, or starts its first
(R135). -/
theorem normNext_cases (f : FrameWord) (t m : Word) :
    (litcount f = 0 ∧ normPdur f m = 0 ∧ normPcnt f t m = 0 ∧ normNext f t m = .dark) ∨
    (litcount f ≠ 0 ∧ normPcnt f t m = 0 ∧ normNext f t m = .done) ∨
    (litcount f ≠ 0 ∧ normPcnt f t m ≠ 0 ∧ normNext f t m = .rowEn) := by
  by_cases h : litcount f = 0
  · exact .inl ⟨h, by rw [normPdur, if_pos h], by rw [normPcnt, if_pos h], by rw [normNext, if_pos h]⟩
  · by_cases hn : normPcnt f t m = 0
    · exact .inr (.inl ⟨h, hn, by rw [normNext, if_neg h, if_pos hn]⟩)
    · exact .inr (.inr ⟨h, hn, by rw [normNext, if_neg h, if_neg hn]⟩)

/-- Where S_NORM leaves the block (R135). -/
theorem State.normalize_st_cases (s : State) :
    s.normalize.st = .dark ∨ s.normalize.st = .done ∨ s.normalize.st = .rowEn := by
  rw [State.normalize_st]
  obtain h | h | h := normNext_cases s.frame s.total s.minp
  · exact .inl h.2.2.2
  · exact .inr (.inl h.2.2)
  · exact .inr (.inr h.2.2)

/-- A counter that is not at its register's end counts up by one (R35). -/
theorem passSucc_of_lt {p : Word} (h : p.toNat + 1 < 2 ^ 32) : passSucc p = p + 1 := by
  unfold passSucc
  rw [if_neg]
  intro he
  rw [he] at h
  simp at h

theorem fpSucc_of_lt {p : BitVec 16} (h : p.toNat + 1 < 2 ^ 16) : fpSucc p = p + 1 := by
  unfold fpSucc
  rw [if_neg]
  intro he
  rw [he] at h
  simp at h

end Sys2Proof.Machine
end

