-- ==== Sys2Proof/Laws/Ops.lean ====
section
/-! SUPPORT. For each shared operation, once, everything it can do. -/

namespace Sys2Proof.Machine

/-- A line operation either fails and enters the fault state, or drives its line and goes on (R111 to R114, R216). -/
theorem State.issueLine_cases (op : LineOp) (k : State → State) (s : State) :
    (s.lineAnswer = true ∧
      s.issueLine op k = (s.record (lineEvent op)).answered.enterFault .hardwareFault (lineCode op)) ∨
    (s.lineAnswer = false ∧ s.issueLine op k = k ((s.record (lineEvent op)).answered.drive op)) := by
  unfold State.issueLine
  cases s.lineAnswer <;> simp

theorem State.issueLine_of_fault {s : State} (h : s.lineAnswer = true) (op : LineOp) (k : State → State) :
    s.issueLine op k = (s.record (lineEvent op)).answered.enterFault .hardwareFault (lineCode op) := by
  simp [State.issueLine, h]

theorem State.issueLine_of_ok {s : State} (h : s.lineAnswer = false) (op : LineOp) (k : State → State) :
    s.issueLine op k = k ((s.record (lineEvent op)).answered.drive op) := by
  simp [State.issueLine, h]

/-- A step held by a pending wait, or taken (R150). -/
theorem State.whenFree_cases (body : State → State) (s : State) :
    (s.wpend = true ∧ s.whenFree body = s) ∨ (s.wpend = false ∧ s.whenFree body = body s) := by
  unfold State.whenFree
  cases s.wpend <;> simp

theorem State.whenFree_of_free {s : State} (h : s.wpend = false) (body : State → State) :
    s.whenFree body = body s := by simp [State.whenFree, h]

theorem State.whenFree_of_held {s : State} (h : s.wpend = true) (body : State → State) :
    s.whenFree body = s := by simp [State.whenFree, h]

/-- A host write discarded, or taken (R197). -/
theorem State.whenIdle_cases (body : State → State) (s : State) :
    (s.st ≠ .idle ∧ s.whenIdle body = s) ∨ (s.st = .idle ∧ s.whenIdle body = body s) := by
  unfold State.whenIdle
  split <;> simp_all

theorem State.whenIdle_of_idle {s : State} (h : s.st = .idle) (body : State → State) :
    s.whenIdle body = body s := by simp [State.whenIdle, h]

theorem State.whenIdle_of_ne {s : State} (h : s.st ≠ .idle) (body : State → State) :
    s.whenIdle body = s := by simp [State.whenIdle, h]

/-- The three ways a pending wait is completed (R119, R153, R158; log 11). -/
theorem State.completeWait_cases (s : State) :
    (s.st = .dark ∧ s.completeWait = s.completeDark) ∨ (s.st = .pulse ∧ s.completeWait = s.completePulse) ∨
    (s.st ≠ .dark ∧ s.st ≠ .pulse ∧ s.completeWait = { s with wpend := false }) := by
  unfold State.completeWait
  cases h : s.st <;> simp

/-- The cell at (`r`, `c`) is bit `4*r + c` (R82). -/
theorem cellLit_eq (f : FrameWord) (r c : LineIdx) : cellLit f r c = f.getLsbD (4 * r.toNat + c.toNat) := by
  have h : ∀ r c : LineIdx, (cellIndex r c).toNat = 4 * r.toNat + c.toNat := by decide
  rw [cellLit, h]

/-- A word is read exactly inside the store (R62). -/
theorem memRead_isSome_iff (m : Memory) (a : Nat) : (memRead m a).isSome = true ↔ a < m.depth := by
  unfold memRead
  split <;> simp_all

theorem memRead_of_lt {m : Memory} {a : Nat} (h : a < m.depth) :
    memRead m a = some ((listedWord m.cells a).getD (Config.romWord a)) := by simp [memRead, h]

theorem memRead_of_ge {m : Memory} {a : Nat} (h : m.depth ≤ a) : memRead m a = none := by
  simp [memRead, Nat.not_lt.mpr h]

/-- The reset state's pattern store is in canonical form (log 2). -/
theorem reset_memory_wf : State.reset.mem.wf = true := by
  have h := Config.romTop.isLt
  simp [State.reset, Memory.wf, rising]
  omega

/-- A write of a parameter register: one register changes, or none (R198, R199). -/
theorem parameterWrite_cases (idx : CsrIdx) (data : Word) (s : State) :
    parameterWrite idx data s = { s with frame := data.extractLsb' 0 16 } ∨
    parameterWrite idx data s = { s with total := data } ∨
    parameterWrite idx data s = { s with minp := data } ∨
    parameterWrite idx data s = { s with fps := data } ∨
    parameterWrite idx data s = { s with base := data.extractLsb' 0 16 } ∨
    parameterWrite idx data s = { s with len := data.extractLsb' 0 16 } ∨
    parameterWrite idx data s = s := by
  unfold parameterWrite
  split <;> simp

/-- RENDER, taken: refused for want of a pulse width, or started (R201). -/
theorem State.takeRender_cases (s : State) :
    (s.minp = 0 ∧ s.takeRender = s.clearDone.enterFault .zeroPulse 0) ∨
    (s.minp ≠ 0 ∧ s.takeRender = s.clearDone.startRender) := by
  unfold State.takeRender
  split <;> simp_all

/-- PLAY, taken: refused with one of four causes, or started with a sequence that lies in the store (R202). -/
theorem State.takePlay_cases (s : State) :
    (∃ c, c ≠ .none ∧ c ≠ .hardwareFault ∧ s.takePlay = s.clearDone.enterFault c 0) ∨
    (s.minp ≠ 0 ∧ s.fps ≠ 0 ∧ s.len ≠ 0 ∧ s.base.toNat + s.len.toNat ≤ s.mem.depth ∧
      s.takePlay = s.clearDone.startPlay) := by
  unfold State.takePlay
  split
  · exact .inl ⟨.zeroPulse, by simp⟩
  split
  · exact .inl ⟨.zeroFps, by simp⟩
  split
  · exact .inl ⟨.emptySequence, by simp⟩
  split
  · exact .inl ⟨.badRange, by simp⟩
  · exact .inr (by simp_all)

/-- A command, taken: nothing, a refusal with a cause of its own, or a start (R200 to R203). -/
theorem State.takeCommand_cases (c : Cmd) (s : State) :
    s.takeCommand c = s ∨
    (∃ f, f ≠ .none ∧ f ≠ .hardwareFault ∧ s.takeCommand c = s.clearDone.enterFault f 0) ∨
    (s.minp ≠ 0 ∧ s.takeCommand c = s.clearDone.startRender) ∨
    (s.minp ≠ 0 ∧ s.fps ≠ 0 ∧ s.len ≠ 0 ∧ s.base.toNat + s.len.toNat ≤ s.mem.depth ∧
      s.takeCommand c = s.clearDone.startPlay) := by
  cases c with
  | nop => exact .inl rfl
  | render =>
    rcases s.takeRender_cases with ⟨-, h⟩ | ⟨hm, h⟩
    · exact .inr (.inl ⟨.zeroPulse, by simp, by simp, h⟩)
    · exact .inr (.inr (.inl ⟨hm, h⟩))
  | play =>
    rcases s.takePlay_cases with ⟨f, h1, h2, h⟩ | h
    · exact .inr (.inl ⟨f, h1, h2, h⟩)
    · exact .inr (.inr (.inr h))
  | rsvd => exact .inr (.inl ⟨.badCommand, by simp, by simp, rfl⟩)

/-- What keeps holding along the enabled steps of a render holds at its end (R165). -/
theorem State.renderSteps_induct {P : State → Prop} (step : ∀ s, s.renderOver = false → P s → P s.renderStep) :
    ∀ (k : Nat) (s : State), P s → P (State.renderSteps k s) := by
  intro k
  induction k with
  | zero => exact fun _ h => h
  | succ k ih =>
    intro s h
    unfold State.renderSteps
    cases ho : s.renderOver with
    | true => simpa using h
    | false => simpa using ih _ (step s ho h)

/-- A render that has ended stays as it is. -/
theorem State.renderSteps_over {s : State} (h : s.renderOver = true) (k : Nat) : State.renderSteps k s = s := by
  cases k <;> simp [State.renderSteps, h]

/-- The enabled steps of a render compose. -/
theorem State.renderSteps_add (j k : Nat) (s : State) :
    State.renderSteps (j + k) s = State.renderSteps k (State.renderSteps j s) := by
  induction j generalizing s with
  | zero => simp [State.renderSteps]
  | succ j ih =>
    rw [Nat.succ_add]
    cases h : s.renderOver with
    | true => rw [State.renderSteps_over h, State.renderSteps_over h, State.renderSteps_over h]
    | false =>
      have h1 : ∀ m, State.renderSteps (m + 1) s = State.renderSteps m s.renderStep := fun m => by
        simp [State.renderSteps, h]
      rw [h1, h1, ih]

end Sys2Proof.Machine
end

