-- ==== Sys2Proof/Laws/PerInstr.lean ====
section
/-! SUPPORT. What is said of every instruction, one lemma per constructor: its encoding fits its format (spec/30_encoding.md
R80). -/

namespace Sys2Proof.Laws.EncodeFits

/-- The word of an instruction has no bit outside its format (R80). -/
def Statement (i : Instr) : Prop := encode i < 2 ^ (formatOf i).bits

theorem frameDark : Statement .frameDark := by simp [Statement, encode, formatOf, Format.bits]
theorem frameLit (cells : FrameWord) : Statement (.frameLit cells) := cells.isLt
theorem csrRd (idx : CsrIdx) : Statement (.csrRd idx) := (0#1 ++ idx ++ 0#32).isLt
theorem csrWr (idx : CsrIdx) (data : Word) : Statement (.csrWr idx data) := (1#1 ++ idx ++ data).isLt
theorem nop : Statement .nop := by simp [Statement, encode, formatOf, Format.bits]
theorem render : Statement .render := by simp [Statement, encode, formatOf, Format.bits]
theorem play : Statement .play := by simp [Statement, encode, formatOf, Format.bits]
theorem cmdRsvd : Statement .cmdRsvd := by simp [Statement, encode, formatOf, Format.bits]
theorem rowDe (idx : LineIdx) : Statement (.rowDe idx) := ((0 : Word) ++ (0b000#3 ++ idx)).isLt
theorem rowAs (idx : LineIdx) : Statement (.rowAs idx) := ((0 : Word) ++ (0b001#3 ++ idx)).isLt
theorem colDe (idx : LineIdx) : Statement (.colDe idx) := ((0 : Word) ++ (0b010#3 ++ idx)).isLt
theorem colAs (idx : LineIdx) : Statement (.colAs idx) := ((0 : Word) ++ (0b011#3 ++ idx)).isLt
theorem waitUs (micros : Word) : Statement (.waitUs micros) := (micros ++ 0x10#5).isLt
theorem waitMs (millis : BitVec 16) : Statement (.waitMs millis) := (0#16 ++ millis ++ 0x18#5).isLt
theorem sIdle : Statement .sIdle := by simp [Statement, encode, formatOf, Format.bits]
theorem sFetch : Statement .sFetch := by simp [Statement, encode, formatOf, Format.bits]
theorem sNorm : Statement .sNorm := by simp [Statement, encode, formatOf, Format.bits]
theorem sDark : Statement .sDark := by simp [Statement, encode, formatOf, Format.bits]
theorem sRowEn : Statement .sRowEn := by simp [Statement, encode, formatOf, Format.bits]
theorem sCell : Statement .sCell := by simp [Statement, encode, formatOf, Format.bits]
theorem sColOn : Statement .sColOn := by simp [Statement, encode, formatOf, Format.bits]
theorem sPulse : Statement .sPulse := by simp [Statement, encode, formatOf, Format.bits]
theorem sColOff : Statement .sColOff := by simp [Statement, encode, formatOf, Format.bits]
theorem sRowDis : Statement .sRowDis := by simp [Statement, encode, formatOf, Format.bits]
theorem sDone : Statement .sDone := by simp [Statement, encode, formatOf, Format.bits]
theorem sFault : Statement .sFault := by simp [Statement, encode, formatOf, Format.bits]

end Sys2Proof.Laws.EncodeFits
end

