-- ==== Sys2Proof/Laws/Step.lean ====
section
/-! SUPPORT. Once, everything a step can do: its turn, and what each turn can answer. -/

namespace Sys2Proof.Machine

@[simp] theorem nextTurn_cons {s : State} {t : Turn} {ts : List Turn} (h : s.turns = t :: ts) : s.nextTurn = t := by
  simp [State.nextTurn, h]

/-- A step is the next turn (R10). -/
theorem step_eq (s : State) : step s = takeTurn s.nextTurn s.turnTaken := rfl

/-- The block's turn runs the step `ST` selects (R93, R150). -/
theorem blockTurn_eq (s : State) : blockTurn s = if s.wpend then .next s else exec (stepInstr s.st) s := by
  simp [blockTurn, runDecoded]

/-- S_FETCH holds, fetches a word, or stops outside the store (R181; log 18). -/
theorem execSFetch_cases (s : State) :
    (s.wpend = true ∧ execSFetch s = .next s) ∨
    (s.wpend = false ∧ s.fetchAddr < s.mem.depth ∧
      ∃ w, memRead s.mem s.fetchAddr = some w ∧ execSFetch s = .next (s.fetched w)) ∨
    (s.wpend = false ∧ s.mem.depth ≤ s.fetchAddr ∧ execSFetch s = .fault (.outsideStore s.fetchAddr)) := by
  unfold execSFetch
  cases hw : s.wpend with
  | true => simp
  | false =>
    by_cases ha : s.fetchAddr < s.mem.depth
    · exact .inr (.inl ⟨rfl, ha, _, memRead_of_lt ha, by simp [memRead_of_lt ha]⟩)
    · exact .inr (.inr ⟨rfl, by omega, by simp [memRead_of_ge (Nat.le_of_not_lt ha)]⟩)

/-- The block's turn, state by state (R150). -/
theorem blockTurn_cases (s : State) :
    (s.wpend = true ∧ blockTurn s = .next s) ∨
    (s.wpend = false ∧
      ((s.st = .fetch ∧ blockTurn s = execSFetch s) ∨ (s.st = .done ∧ blockTurn s = .next s.doneStep) ∨
        (s.st ≠ .fetch ∧ s.st ≠ .done ∧ blockTurn s = .next s.renderStep))) := by
  rw [blockTurn_eq]
  cases hw : s.wpend with
  | true => simp
  | false =>
    refine .inr ⟨rfl, ?_⟩
    cases hs : s.st <;> simp [stepInstr, exec, State.renderStep, hw, hs, execSNorm, execSDark, execSRowEn, execSCell,
      execSColOn, execSPulse, execSColOff, execSRowDis, execSDone, execSIdle, execSFault]

/-- The delay source's turn (R119, R241). -/
theorem delayTurn_cases (s : State) :
    (s.wpend = true ∧ delayTurn s = .next s.completeWait) ∨ (s.wpend = false ∧ delayTurn s = .next s) := by
  unfold delayTurn
  cases s.wpend <;> simp

/-- A line operation does not look at the turns or at the count of steps, if what follows it does not. -/
theorem State.issueLine_turns (op : LineOp) (k : State → State) (ts : List Turn) (n : Nat)
    (hk : ∀ u : State, k { u with turns := ts, ticks := n } = { k u with turns := ts, ticks := n }) (s : State) :
    State.issueLine op k { s with turns := ts, ticks := n } = { s.issueLine op k with turns := ts, ticks := n } := by
  cases ha : s.lineAnswer
  · rw [State.issueLine_of_ok (s := { s with turns := ts, ticks := n }) ha, State.issueLine_of_ok ha, ← hk]
    cases op <;> rfl
  · rw [State.issueLine_of_fault (s := { s with turns := ts, ticks := n }) ha, State.issueLine_of_fault ha]
    rfl

/-- The enabled step of a render does not look at the turns or at the count of steps. -/
theorem State.renderStep_turns (s : State) (ts : List Turn) (n : Nat) :
    State.renderStep { s with turns := ts, ticks := n } = { s.renderStep with turns := ts, ticks := n } := by
  obtain ⟨frame, total, minp, fps, base, len, lit, pdur, pcnt, pass, row, col, fp, st, mode, rowl, coll, done, wpend,
    fcause, finfo, mem, trace, rdata, turns, answers, draws, ticks⟩ := s
  cases wpend with
  | true => cases st <;> rfl
  | false =>
    cases st with
    | idle | fetch | dark | pulse | done | fault => rfl
    | norm => simp only [State.renderStep, State.normStep, State.whenFree, State.normalize, Bool.false_eq_true, if_false]
    | cell =>
      simp only [State.renderStep, State.cellStep, State.whenFree, Bool.false_eq_true, if_false]
      split_ifs <;> rfl
    | rowEn => exact State.issueLine_turns (.rowAs row) (fun t => { t with col := 0, st := .cell }) ts n (fun _ => rfl) _
    | colOn => exact State.issueLine_turns (.colAs col) (fun t => { t with st := .pulse }) ts n (fun _ => rfl) _
    | colOff =>
      refine State.issueLine_turns (.colDe col) State.nextColumn ts n (fun u => ?_) _
      simp only [State.nextColumn]
      split_ifs <;> rfl
    | rowDis =>
      refine State.issueLine_turns (.rowDe row) State.nextRow ts n (fun u => ?_) _
      simp only [State.nextRow]
      split_ifs <;> rfl

/-- The enabled step of a render is one step of the machine: the delay source's turn while a wait is pending, else the
block's (R3, R150). -/
theorem step_renderStep {s : State} (ts : List Turn) (hf : s.st ≠ .fetch) (hd : s.st ≠ .done) :
    step { s with turns := (if s.wpend then .delay else .block) :: ts } =
      .next { s.renderStep with turns := ts, ticks := s.ticks + 1 } := by
  rw [← State.renderStep_turns]
  cases hw : s.wpend with
  | true =>
    simp [step, State.nextTurn, State.turnTaken, takeTurn, delayTurn, State.renderStep]
  | false =>
    rcases blockTurn_cases { s with turns := ts, ticks := s.ticks + 1 } with
      ⟨h, -⟩ | ⟨-, ⟨h, -⟩ | ⟨h, -⟩ | ⟨-, -, h⟩⟩
    · simp [hw] at h
    · exact absurd h hf
    · exact absurd h hd
    · simpa [step, State.nextTurn, State.turnTaken, takeTurn, hw] using h

/-- The host's turn: a read, or a write (R196, R197). -/
theorem hostTurn_cases (w : AccessWord) (s : State) :
    (∃ idx, exec (decodeAccess w) s = .next { s with csrRdata := csrValue idx s }) ∨
    (∃ idx data, exec (decodeAccess w) s = .next (s.whenIdle (State.takeWrite idx data))) := by
  rcases decodeAccess_cases w with ⟨idx, h⟩ | ⟨idx, data, h⟩
  · exact .inl ⟨idx, by rw [h]; rfl⟩
  · exact .inr ⟨idx, data, by rw [h]; rfl⟩

end Sys2Proof.Machine
end

