-- ==== Sys2Proof/Tests/Slice0.lean ====
section
/-! SUPPORT. Tests of the model, their expected results from spec/95_test_vectors.md (vector names in the comments) or
written out from spec/30_encoding.md; and the witnesses that the statements' hypotheses can be met. -/

namespace Sys2Proof.Tests

open Sys2Proof.Machine

/-! ### Well-formedness and decoding -/

/-- The dark frame is no FRAME.LIT (R83). -/
theorem test_wf_refuses_dark_lit : (Instr.frameLit 0).wf = false := by decide

-- FRAME.DARK, FRAME.LIT: V1, V2 (0x0040 is row 1, column 2: bit 6)
theorem test_decode_frame_dark : decode .frame 0b0000000000000000 = .ok .frameDark := by decide
theorem test_decode_frame_lit : decode .frame 0b0000000001000000 = .ok (.frameLit 0x0040) := by decide

-- CSR.RD STATUS, CSR.WR MIN_PULSE_US 100: P1, accesses 5 and 3; the we bit, then four index bits, then 32 data bits
theorem test_decode_csrRd : decode .access 0b0000100000000000000000000000000000000 = .ok (.csrRd 1) := by decide
theorem test_decode_csrWr : decode .access 0b1010000000000000000000000000001100100 = .ok (.csrWr 4 100) := by decide

-- the commands: H4 (0x4 is a NOP, bits 31:2 ignored), R86
theorem test_decode_nop : decode .cmd 0b100 = .ok .nop := by decide
theorem test_decode_render : decode .cmd 0b01 = .ok .render := by decide
theorem test_decode_play : decode .cmd 0b10 = .ok .play := by decide
theorem test_decode_cmdRsvd : decode .cmd 0b11 = .ok .cmdRsvd := by decide

-- the micro-operations: M1 to M4, M6 (codes 0x05, 0x01, 0x0E, 0x0A), M8, R116
theorem test_decode_rowAs : decode .uop 0b00101 = .ok (.rowAs 1) := by decide
theorem test_decode_rowDe : decode .uop 0b00001 = .ok (.rowDe 1) := by decide
theorem test_decode_colAs : decode .uop 0b01110 = .ok (.colAs 2) := by decide
theorem test_decode_colDe : decode .uop 0b01010 = .ok (.colDe 2) := by decide
theorem test_decode_waitUs : decode .uop (50 * 32 + 0b10000) = .ok (.waitUs 50) := by decide
theorem test_decode_waitMs : decode .uop (7 * 32 + 0b11000) = .ok (.waitMs 7) := by decide
theorem test_decode_reserved_uop : decode .uop 0b10001 = .error (.reservedUop 0x11) := by decide
theorem test_decode_wide_millis : decode .uop (65536 * 32 + 0b11000) = .error (.wideMillis 65536) := by decide

-- the steps: R33
theorem test_decode_sIdle : decode .step 0b0000 = .ok .sIdle := by decide
theorem test_decode_sFetch : decode .step 0b0001 = .ok .sFetch := by decide
theorem test_decode_sNorm : decode .step 0b0010 = .ok .sNorm := by decide
theorem test_decode_sDark : decode .step 0b0011 = .ok .sDark := by decide
theorem test_decode_sRowEn : decode .step 0b0100 = .ok .sRowEn := by decide
theorem test_decode_sCell : decode .step 0b0101 = .ok .sCell := by decide
theorem test_decode_sColOn : decode .step 0b0110 = .ok .sColOn := by decide
theorem test_decode_sPulse : decode .step 0b0111 = .ok .sPulse := by decide
theorem test_decode_sColOff : decode .step 0b1000 = .ok .sColOff := by decide
theorem test_decode_sRowDis : decode .step 0b1001 = .ok .sRowDis := by decide
theorem test_decode_sDone : decode .step 0b1010 = .ok .sDone := by decide
theorem test_decode_sFault : decode .step 0b1111 = .ok .sFault := by decide
theorem test_decode_reserved_step : decode .step 0b1011 = .error (.reservedStep 11) := by decide
theorem test_decode_too_wide : decode .step 16 = .error (.tooWide .step 16) := by decide

-- bytes of the P1 access word 0x12_0000_0660, the least significant first
theorem test_decode_bytes : decodeBytes .access [0x60, 0x06, 0x00, 0x00, 0x12] = .ok (.csrWr 2 0x0660) := by decide

-- the table's numbering (log 14)
theorem test_table_access : decodeTableWord 40 0x1000000001 = some (.csrWr 0 1) := by decide
theorem test_table_uop : decodeTableWord 8 0x0E = some (.colAs 2) := by decide

/-! ### One step on a small state -/

/-- A field of the next state, if there is one. -/
def field {α : Type} (o : Host.Outcome State Fault Refusal) (f : State → α) : Option α :=
  match o with
  | .next t => some (f t)
  | .fault _ => none
  | .refused _ => none

/-- A state with the drive lines' answers listed. -/
def answering (as : List Bool) : State := { State.reset with answers := as }

/-- S1's render (frame 0x0040, budget 100, pulse 50) in the state `st` at row 1, column 2. -/
def inS1 (st : St) (rowl coll : Lines) : State :=
  { State.reset with frame := 0x0040, total := 100, minp := 50, lit := 1, pdur := 50, pcnt := 2, row := 1, col := 2,
                     st := st, rowl := rowl, coll := coll, answers := [false] }

-- M1 to M4, M7
theorem test_rowAs : field (exec (.rowAs 1) (answering [false])) (·.rowl) = some 0b0010 := by decide
theorem test_rowAs_fault : field (exec (.rowAs 0) (answering [true])) (fun t => (t.st, t.rowl, t.finfo)) =
    some (.fault, 0, 0x04) := by decide
theorem test_rowDe : field (exec (.rowDe 1) { answering [false] with rowl := 0b0110 }) (·.rowl) = some 0b0100 := by decide
theorem test_colAs : field (exec (.colAs 2) (answering [false])) (fun t => (t.coll, t.rowl)) = some (0b0100, 0) := by decide
theorem test_colDe : field (exec (.colDe 2) { answering [false] with coll := 0b1100 }) (·.coll) = some 0b1000 := by decide
-- M8, R116
theorem test_waitUs : field (exec (.waitUs 50) State.reset) (fun t => (t.wpend, t.trace)) = some (true, [.waitUs 50]) := by
  decide
theorem test_waitMs : field (exec (.waitMs 65535) State.reset) (fun t => (t.wpend, t.trace)) =
    some (true, [.waitUs 65535000]) := by decide

-- the functions' tables of section 2.2
theorem test_litcount : litcount 0xA5A5 = 8 ∧ litcount 0xFFFE = 15 := by decide
theorem test_passdur : passdur 0x10000000 16 = 0x100000000 ∧ passdur 0xFFFFFFFF 16 = 0xFFFFFFFF0 := by decide
theorem test_passcnt : passcnt 250000 1200 = 208 ∧ passcnt 0xFFFFFFFF 0x100000000 = 0 := by decide
theorem test_budget : budget 7 = 142857 ∧ budget 1000001 = 0 := by decide

-- N3, N1
theorem test_sNorm_lit : field (exec .sNorm { State.reset with frame := 0xFFFF, total := 1000, minp := 50 })
    (fun t => (t.pdur, t.pcnt, t.st)) = some (800, 1, .rowEn) := by decide
theorem test_sNorm_dark : field (exec .sNorm { State.reset with total := 1000, minp := 50 }) (·.st) = some .dark := by
  decide
-- R151, R225
theorem test_sIdle : field (exec .sIdle State.reset) (·.st) = some .idle := by decide
theorem test_sFault : field (exec .sFault (inS1 .fault 2 0)) (fun t => (t.st, t.rowl)) = some (.fault, 2) := by decide
-- R152, R153
theorem test_sDark : field (exec .sDark { State.reset with total := 1000 }) (fun t => (t.wpend, t.trace)) =
    some (true, [.waitUs 1000]) := by decide
theorem test_sDark_completed : field (exec .sDark { State.reset with wpend := true }) (fun t => (t.wpend, t.st)) =
    some (false, .done) := by decide
-- S1, lines 8, 11, 10, 12, 13, 14, 15, 17
theorem test_sRowEn : field (exec .sRowEn (inS1 .rowEn 0 0)) (fun t => (t.rowl, t.col, t.st)) =
    some (0b0010, 0, .cell) := by decide
theorem test_sCell_lit : field (exec .sCell (inS1 .cell 2 0)) (·.st) = some .colOn := by decide
theorem test_sCell_dark : field (exec .sCell { inS1 .cell 2 0 with col := 1 }) (fun t => (t.st, t.col)) =
    some (.cell, 2) := by decide
theorem test_sColOn : field (exec .sColOn (inS1 .colOn 2 0)) (fun t => (t.coll, t.st)) = some (0b0100, .pulse) := by
  decide
theorem test_sPulse : field (exec .sPulse (inS1 .pulse 2 4)) (fun t => (t.trace, t.st)) =
    some ([.waitUs 50], .pulse) := by decide
theorem test_sPulse_completed : field (exec .sPulse { inS1 .pulse 2 4 with wpend := true }) (fun t => (t.wpend, t.st)) =
    some (false, .colOff) := by decide
theorem test_sColOff : field (exec .sColOff (inS1 .colOff 2 4)) (fun t => (t.coll, t.col, t.st)) =
    some (0, 3, .cell) := by decide
theorem test_sRowDis : field (exec .sRowDis (inS1 .rowDis 2 0)) (fun t => (t.rowl, t.row, t.st)) =
    some (0, 2, .rowEn) := by decide
-- S1, line 57
theorem test_sRowDis_last : field (exec .sRowDis { inS1 .rowDis 8 0 with row := 3, pass := 1 })
    (fun t => (t.rowl, t.row, t.pass, t.st)) = some (0, 3, 2, .done) := by decide
-- S1, line 58; Q2
theorem test_sDone : field (exec .sDone (inS1 .done 0 0)) (fun t => (t.done, t.st)) = some (true, .idle) := by decide
theorem test_sDone_play : field (exec .sDone { inS1 .done 0 0 with mode := .play, len := 3, fp := 2 })
    (fun t => (t.done, t.fp, t.st)) = some (false, 0, .fetch) := by decide
-- Q3
theorem test_sFetch : field (exec .sFetch { State.reset with
      base := 0x10, fp := 2, fps := 4, mem := { depth := 19, cells := [(0x11, 0x8421), (0x12, 0xFFFF)] } })
    (fun t => (t.frame, t.total, t.st)) = some (0xFFFF, 250000, .norm) := by decide
-- V1 up to S_DONE; S5, whose trace has 12 events
theorem test_frameDark : field (exec .frameDark { State.reset with total := 1000, minp := 50 })
    (fun t => (t.trace, t.st)) = some ([.waitUs 1000], .done) := by decide
theorem test_frameLit : field (exec (.frameLit 0x0009) { answering (List.replicate 12 false) with total := 100, minp := 50 })
    (fun t => (t.trace.take 4, t.trace.length, t.pass, t.st)) =
    some ([.rowAssert 0, .colAssert 0, .waitUs 50, .colDeassert 0], 14, 1, .done) := by decide
-- the read of S1's pulse (R196), F1's two CSRs
theorem test_csrRd_status : field (exec (.csrRd 1) { inS1 .pulse 2 4 with wpend := true }) (·.csrRdata) =
    some 0x979 := by decide
theorem test_csrRd_fault : field (exec (.csrRd 8) { State.reset with st := .fault, fcause := .hardwareFault, finfo := 0x0A })
    (·.csrRdata) = some 0x0A01 := by decide
-- H3, H5
theorem test_csrWr : field (exec (.csrWr 2 0xABCD1234) State.reset) (·.frame) = some 0x1234 := by decide
theorem test_csrWr_busy : field (exec (.csrWr 4 999) (inS1 .pulse 2 4)) (·.minp) = some 50 := by decide
-- H6, H7, F1, F3, F6 and F7, F9
theorem test_nop : field (exec .nop { State.reset with done := true }) (·.done) = some true := by decide
theorem test_render : field (exec .render { State.reset with done := true, minp := 10 }) (fun t => (t.done, t.st)) =
    some (false, .norm) := by decide
theorem test_render_zeroPulse : field (exec .render { State.reset with frame := 0x40, total := 1000 })
    (fun t => (t.fcause, t.st)) = some (.zeroPulse, .fault) := by decide
theorem test_play : field (exec .play { State.reset with
      minp := 5, fps := 10, base := 2, len := 2, fp := 9, mem := { depth := 4, cells := [] } })
    (fun t => (t.mode, t.fp, t.st)) = some (.play, 0, .fetch) := by decide
theorem test_play_badRange : field (exec .play { State.reset with
      minp := 5, fps := 10, base := 2, len := 3, mem := { depth := 4, cells := [] } })
    (fun t => (t.fcause, t.st)) = some (.badRange, .fault) := by decide
theorem test_cmdRsvd : field (exec .cmdRsvd State.reset) (fun t => (t.fcause, t.st)) = some (.badCommand, .fault) := by
  decide

/-- The harness's word runs as the first step: `wr SEQ_LEN, 3` from reset (log 20). -/
theorem test_withFetchWord : field (step (State.reset.withFetchWord 40 0x1700000003)) (·.len) = some 3 := by decide

/-! ### Witnesses -/

theorem witness_DecodeOfEncodeIsIdentity : (Instr.frameLit 0x0040).wf = true := by decide
theorem witness_DecodedInstructionIsWellFormed : decode .frame 0x0040 = .ok (.frameLit 0x0040) := by decide
theorem witness_IgnoredBits_cmd : (4 : Word).extractLsb' 0 2 = (0 : Word).extractLsb' 0 2 := by decide
theorem witness_IgnoredBits_uop : (0x0F : UopCode).getLsbD 4 = false := by decide

/-- A turn listed, the state otherwise `s`. -/
def turning (t : Turn) (s : State) : State := { s with turns := [t] }

theorem witness_StepRuns_block : (turning .block (inS1 .cell 2 0)).turns = .block :: [] ∧ (inS1 .cell 2 0).wpend = false ∧
    decode .step (stCode (inS1 .cell 2 0).st).toNat = .ok .sCell := by decide
theorem witness_StepRuns_host : (turning (.host 0x1300000064) State.reset).turns = .host 0x1300000064 :: [] ∧
    decode .access (0x1300000064 : AccessWord).toNat = .ok (.csrWr 3 100) := by decide
theorem witness_StepRuns_cmd : decode .cmd (6 : Word).toNat = .ok .play := by decide

theorem witness_PendingWait_block : (turning .block { inS1 .pulse 2 4 with wpend := true }).turns = .block :: [] ∧
    (turning .block { inS1 .pulse 2 4 with wpend := true }).wpend = true := by decide
theorem witness_PendingWait_dark : (turning .delay { inS1 .dark 0 0 with wpend := true }).turns = .delay :: [] ∧
    (turning .delay { inS1 .dark 0 0 with wpend := true }).wpend = true ∧ (inS1 .dark 0 0).st = .dark := by decide
theorem witness_PendingWait_pulse : (turning .delay { inS1 .pulse 2 4 with wpend := true }).turns = .delay :: [] ∧
    (turning .delay { inS1 .pulse 2 4 with wpend := true }).wpend = true ∧ (inS1 .pulse 2 4).st = .pulse := by decide
theorem witness_PendingWait_none : (turning .delay (inS1 .cell 2 0)).turns = .delay :: [] ∧
    (inS1 .cell 2 0).wpend = false := by decide
theorem witness_ResetTurnResets : (turning .reset (inS1 .pulse 2 4)).turns = .reset :: [] := by decide

/-- For the statements about both results of a line operation, at S_ROW_EN, S_COL_ON, S_COL_OFF and S_ROW_DIS too. -/
theorem witness_line_ok : (inS1 .rowEn 0 0).lineAnswer = false ∧ (inS1 .rowEn 0 0).wpend = false := by decide
theorem witness_line_fault : (answering [true]).lineAnswer = true ∧ (answering [true]).wpend = false := by decide
theorem witness_LineOperationsAreIdempotent : (inS1 .pulse 2 4).lineAnswer = false ∧
    (inS1 .pulse 2 4).rowl.getLsbD (1 : LineIdx).toNat = true ∧ (inS1 .pulse 2 4).rowl.getLsbD (0 : LineIdx).toNat = false ∧
    (inS1 .pulse 2 4).coll.getLsbD (2 : LineIdx).toNat = true ∧
    (inS1 .pulse 2 4).coll.getLsbD (3 : LineIdx).toNat = false := by decide

/-- The fault of F13: `C2-` failed, code 0x0A. -/
def failedC2 : State := { inS1 .fault 2 4 with fcause := .hardwareFault, finfo := 0x0A }

theorem witness_Pins_healthy : (inS1 .pulse 2 4).fcause ≠ .hardwareFault := by decide
theorem witness_Pins_row : failedC2.finfo ≠ (2 : LineIdx).setWidth 5 ∧ failedC2.finfo ≠ 4#5 + (2 : LineIdx).setWidth 5 ∧
    failedC2.finfo.toNat < 16 := by decide
theorem witness_Pins_column : failedC2.finfo ≠ 8#5 + (3 : LineIdx).setWidth 5 ∧
    failedC2.finfo ≠ 12#5 + (3 : LineIdx).setWidth 5 := by decide
theorem witness_Pins_waits : ({ inS1 .dark 0 0 with wpend := true } : State).wpend = true ∧ (inS1 .dark 0 0).st = .dark ∧
    ({ inS1 .pulse 2 4 with wpend := true } : State).wpend = true ∧ (inS1 .pulse 2 4).st = .pulse := by decide

theorem witness_FinfoIsTheFailedOperation : (Instr.colAs 3 = .rowDe 3 ∨ Instr.colAs 3 = .rowAs 3 ∨
    Instr.colAs 3 = .colDe 3 ∨ Instr.colAs 3 = .colAs 3) ∧ (answering [true]).lineAnswer = true := by decide
theorem witness_NormalizerFunctions : (16 : BitVec 5).toNat ≤ 16 ∧ (1 : BitVec 36) ≠ 0 ∧ (1 : Word) ≠ 0 := by decide
theorem witness_PassesFitTheBudget : (0xFFFF : FrameWord) ≠ 0 ∧ (0xFFFFFFFF : Word) ≠ 0 := by decide
theorem witness_NormalizeResult_dark : State.reset.wpend = false ∧ State.reset.frame = 0 := by decide
theorem witness_NormalizeResult_lit : (inS1 .norm 0 0).wpend = false ∧ (inS1 .norm 0 0).frame ≠ 0 ∧
    (inS1 .norm 0 0).minp ≠ 0 := by decide
theorem witness_CellExamined_lit : (inS1 .cell 2 0).wpend = false ∧ (inS1 .cell 2 0).frame.getLsbD
    (4 * (inS1 .cell 2 0).row.toNat + (inS1 .cell 2 0).col.toNat) = true := by decide
theorem witness_CellExamined_dark : (inS1 .cell 2 0).wpend = false ∧ ({ inS1 .cell 2 0 with col := 1 } : State).frame.getLsbD
    (4 * (1 : LineIdx).toNat + (1 : LineIdx).toNat) = false ∧ (1 : LineIdx) ≠ 3 ∧
    ({ inS1 .cell 2 0 with col := 3 } : State).frame.getLsbD (4 * (1 : LineIdx).toNat + (3 : LineIdx).toNat) = false := by
  decide
theorem witness_RowDisabled_middle : (inS1 .rowDis 2 0).wpend = false ∧ (inS1 .rowDis 2 0).lineAnswer = false ∧
    (inS1 .rowDis 2 0).row ≠ 3 := by decide

/-- S1's render at its last row, `PASS` being `p`. -/
def lastRow (p : Word) : State := { inS1 .rowDis 8 0 with row := 3, pass := p }

theorem witness_RowDisabled_last : (lastRow 1).wpend = false ∧ (lastRow 1).lineAnswer = false ∧ (lastRow 1).row = 3 ∧
    (lastRow 1).pass.toNat + 1 = (lastRow 1).pcnt.toNat := by decide
theorem witness_RowDisabled_again : (lastRow 0).wpend = false ∧ (lastRow 0).lineAnswer = false ∧ (lastRow 0).row = 3 ∧
    (lastRow 0).pass.toNat + 1 ≠ (lastRow 0).pcnt.toNat ∧ (lastRow 0).pass.toNat + 1 < 2 ^ 32 := by decide
theorem witness_OneShotReturns : (inS1 .done 0 0).wpend = false ∧ (inS1 .done 0 0).mode = .oneShot := by decide

/-- A PLAY of one frame, 0x0001, from the store's only word: budget 1, pulse 1, one pass of 10 line operations. -/
def playing : State :=
  { answering (List.replicate 10 false) with
    minp := 1, fps := 1000000, base := 0, len := 1, mode := .play, st := .fetch,
    mem := { depth := 1, cells := [(0, 1)] }, turns := [] }

theorem witness_PlayAdvances_last : playing.wpend = false ∧ playing.mode = .play ∧
    playing.fp.toNat + 1 = playing.len.toNat := by decide
theorem witness_PlayAdvances_next : ({ playing with len := 3 } : State).wpend = false ∧
    ({ playing with len := 3 } : State).mode = .play ∧
    ({ playing with len := 3 } : State).fp.toNat + 1 ≠ ({ playing with len := 3 } : State).len.toNat ∧
    ({ playing with len := 3 } : State).fp.toNat + 1 < 2 ^ 16 := by decide
theorem witness_FetchResult : playing.wpend = false ∧ playing.fps ≠ 0 ∧
    memRead playing.mem (playing.base.toNat + playing.fp.toNat) = some 1 := by decide

/-- A canonical store of one listed word, which differs from what the address would read as unlisted. -/
def oneWord : Memory := { depth := 1, cells := [(0, ~~~Config.romWord 0)] }

theorem witness_StoreWord_listed : oneWord.wf = true ∧ (0, ~~~Config.romWord 0) ∈ oneWord.cells := by
  have h : ∀ x : FrameWord, (~~~x == x) = false := fun x => by
    rw [beq_eq_false_iff_ne]
    intro e
    have := congrArg (BitVec.getLsbD · 0) e
    simp at this
  simp [oneWord, Memory.wf, rising, bne, h]
theorem witness_StoreWord_unlisted : 0 < ({ depth := 1, cells := [] } : Memory).depth ∧
    ∀ w, (0, w) ∉ ({ depth := 1, cells := [] } : Memory).cells := ⟨by decide, fun _ h => by cases h⟩
theorem witness_Pins_fetch : ({ playing with mem := { depth := 1, cells := [] } } : State).mem.wf = true ∧
    playing.st = .fetch ∧ playing.base.toNat + playing.fp.toNat < 1 ∧ playing.wpend = false := by decide
theorem witness_FetchOutsideTheStore : ({ playing with fp := 1 } : State).wpend = false ∧
    ({ playing with fp := 1 } : State).mem.depth ≤ playing.base.toNat + (1 : BitVec 16).toNat := by decide
theorem witness_WaitsIssuedAndCompleted : State.reset.wpend = false ∧
    ({ inS1 .pulse 2 4 with wpend := true } : State).wpend = true := by decide
theorem witness_DarkFrameResult : State.reset.wpend = false := by decide

/-- A render of 0x0001 in one pass, the drive lines answering `ok` ten times. -/
def oneCell : State :=
  { answering (List.replicate 10 false) with frame := 1, total := 50, minp := 50, st := .norm }

theorem witness_LitFrameResult : (1 : FrameWord) ≠ 0 ∧ oneCell.minp ≠ 0 ∧ oneCell.wpend = false ∧ oneCell.rowl = 0 ∧
    oneCell.coll = 0 ∧ oneCell.answers = List.replicate (lineOpCount 1 oneCell.total oneCell.minp) false ++ [] := by decide
theorem witness_RenderTrace_dark : oneCell.minp ≠ 0 ∧ oneCell.wpend = false ∧
    oneCell.answers = List.replicate (lineOpCount 0 oneCell.total oneCell.minp) false ++ oneCell.answers := by decide
theorem witness_RenderCounts : (0xFFFF : FrameWord) ≠ 0 ∧ (50 : Word) ≠ 0 := by decide
theorem witness_RenderIsDeterministic : oneCell.total = ({ oneCell with done := true, rowl := 9, fp := 7 } : State).total ∧
    oneCell.minp = ({ oneCell with done := true, rowl := 9, fp := 7 } : State).minp ∧
    oneCell.answers = ({ oneCell with done := true, rowl := 9, fp := 7 } : State).answers ∧
    oneCell.draws = ({ oneCell with done := true, rowl := 9, fp := 7 } : State).draws ∧ oneCell.wpend = false := by decide
theorem witness_FrameWord : oneCell.st = .norm ∧ oneCell.wpend = false ∧
    decode .frame oneCell.frame.toNat = .ok (.frameLit 1) := by decide

/-- F12: `render 0x0040, 1000, 50`, line operation 4 (`C2+`) fails. -/
def failingC2 : State := { answering [false, false, false, true] with total := 1000, minp := 50 }

theorem witness_FailingRender : failingC2.minp ≠ 0 ∧ failingC2.wpend = false ∧
    3 < lineOpCount 0x0040 failingC2.total failingC2.minp ∧
    failingC2.answers = List.replicate 3 false ++ true :: [] := by decide
theorem test_failing_render : field (exec (.frameLit 0x0040) failingC2) (fun t => (t.trace, t.finfo, t.rowl, t.coll)) =
    some ([.rowAssert 0, .rowDeassert 0, .rowAssert 1, .colAssert 2], 0x0E, 2, 0) := by decide
theorem witness_PlayRenders : playing.st = .fetch ∧ playing.mode = .play ∧ playing.wpend = false ∧ playing.minp ≠ 0 ∧
    playing.fps ≠ 0 ∧ playing.fp.toNat < playing.len.toNat ∧
    memRead playing.mem (playing.base.toNat + playing.fp.toNat) = some 1 ∧
    playing.answers = List.replicate (lineOpCount 1 (budget playing.fps) playing.minp) false ++ [] := by decide

/-- `oneCell` before its RENDER. -/
def beforeRender : State := { oneCell with st := .idle }

theorem witness_OneShotRender : beforeRender.st = .idle ∧ beforeRender.wpend = false ∧ beforeRender.minp ≠ 0 ∧
    decodeCmd 1 = .render ∧
    beforeRender.answers =
      List.replicate (lineOpCount beforeRender.frame beforeRender.total beforeRender.minp) false ++ [] := by decide

theorem witness_CsrWriteTable : (inS1 .pulse 2 4).st ≠ .idle ∧ State.reset.st = .idle ∧ 8 ≤ (8 : CsrIdx).toNat ∧
    (4 : Word).toNat % 4 = 0 ∧ (5 : Word).toNat % 4 = 1 ∧ (6 : Word).toNat % 4 = 2 ∧ (7 : Word).toNat % 4 = 3 := by decide
theorem witness_NopReserved : State.reset.st = .idle ∧ (inS1 .pulse 2 4).st ≠ .idle := by decide
theorem witness_RenderCommand : beforeRender.st = .idle ∧ beforeRender.minp ≠ 0 ∧ State.reset.minp = 0 := by decide

/-- PLAY at the end of a store of four words (F6, F7). -/
def beforePlay (minp fps : Word) (len : BitVec 16) : State :=
  { State.reset with minp := minp, fps := fps, base := 2, len := len, mem := { depth := 4, cells := [] } }

theorem witness_PlayCommand_accepted : (beforePlay 5 10 2).st = .idle ∧ (beforePlay 5 10 2).minp ≠ 0 ∧
    (beforePlay 5 10 2).fps ≠ 0 ∧ (beforePlay 5 10 2).len ≠ 0 ∧
    (beforePlay 5 10 2).base.toNat + (beforePlay 5 10 2).len.toNat ≤ (beforePlay 5 10 2).mem.depth := by decide
theorem witness_PlayCommand_badRange : (beforePlay 5 10 3).len ≠ 0 ∧
    (beforePlay 5 10 3).mem.depth < (beforePlay 5 10 3).base.toNat + (beforePlay 5 10 3).len.toNat := by decide
theorem witness_PlayCommand_refused : (beforePlay 0 0 0).minp = 0 ∧ (beforePlay 5 0 0).minp ≠ 0 ∧
    (beforePlay 5 0 0).fps = 0 ∧ (beforePlay 5 10 0).fps ≠ 0 ∧ (beforePlay 5 10 0).len = 0 := by decide

theorem witness_HostCannotDisturb : (turning (.host 0x1000000003) (inS1 .pulse 2 4)).st ≠ .idle ∧
    (turning (.host 0x1000000003) (inS1 .pulse 2 4)).nextTurn = .host 0x1000000003 := by decide
theorem witness_FaultStateIsTerminal : (turning .block failedC2).st = .fault ∧ (turning .block failedC2).wpend = false ∧
    (turning .block failedC2).nextTurn ≠ .reset := by decide

/-- For the statements about every step: `s` with its next state. -/
theorem witness_step_next : step (turning .delay { inS1 .pulse 2 4 with wpend := true }) =
    .next { inS1 .pulse 2 4 with st := .colOff, ticks := 1 } := rfl

theorem witness_PlayNeverReturns : playing.mode = .play ∧ playing.st ≠ .idle ∧
    (turning .block playing).nextTurn ≠ .reset ∧ (field (step (turning .block playing)) (·.st)).isSome = true := by decide
theorem witness_ParametersConstant : (inS1 .pulse 2 4).st ≠ .idle ∧ (inS1 .pulse 2 4).st ≠ .fetch ∧
    (turning .delay (inS1 .pulse 2 4)).nextTurn ≠ .reset := by decide
theorem witness_PatternStore : exec (.csrWr 3 7) State.reset = .next { State.reset with total := 7 } := rfl
theorem witness_AtMostOneEvent : (turning .delay { inS1 .pulse 2 4 with wpend := true }).nextTurn ≠ .reset ∧
    (turning .delay { inS1 .pulse 2 4 with wpend := true }).wpend = true := by decide
theorem witness_NoFailure : (turning .block { failedC2 with answers := [false] }).lineAnswer = false ∧
    field (step (turning .block { failedC2 with answers := [false] })) (·.fcause) = some .hardwareFault := by decide

/-! S1's render meets the invariant in the states of its lit cell. -/

theorem witness_Inv_rowEn : Invariant (inS1 .rowEn 0 0) where
  memory := reset_memory_wf
  wait := by decide
  cause := by decide
  info := by decide
  doneFlag := by decide
  pulseWidth := by decide
  sequence := fun _ h => by cases h
  fetching := by decide
  normalized := by decide
  dark := by decide
  passes := by decide
  complete := by decide
  lines := ⟨rfl, rfl⟩

theorem witness_Inv_cell : Invariant (inS1 .cell 2 0) where
  memory := reset_memory_wf
  wait := by decide
  cause := by decide
  info := by decide
  doneFlag := by decide
  pulseWidth := by decide
  sequence := fun _ h => by cases h
  fetching := by decide
  normalized := by decide
  dark := by decide
  passes := by decide
  complete := by decide
  lines := ⟨rfl, rfl⟩

theorem witness_Inv_colOn : Invariant (inS1 .colOn 2 0) where
  memory := reset_memory_wf
  wait := by decide
  cause := by decide
  info := by decide
  doneFlag := by decide
  pulseWidth := by decide
  sequence := fun _ h => by cases h
  fetching := by decide
  normalized := by decide
  dark := by decide
  passes := by decide
  complete := by decide
  lines := ⟨rfl, rfl, rfl⟩

theorem witness_Inv_colOff : Invariant (inS1 .colOff 2 4) where
  memory := reset_memory_wf
  wait := by decide
  cause := by decide
  info := by decide
  doneFlag := by decide
  pulseWidth := by decide
  sequence := fun _ h => by cases h
  fetching := by decide
  normalized := by decide
  dark := by decide
  passes := by decide
  complete := by decide
  lines := ⟨rfl, rfl, rfl⟩

theorem witness_Inv_rowDis : Invariant (inS1 .rowDis 2 0) where
  memory := reset_memory_wf
  wait := by decide
  cause := by decide
  info := by decide
  doneFlag := by decide
  pulseWidth := by decide
  sequence := fun _ h => by cases h
  fetching := by decide
  normalized := by decide
  dark := by decide
  passes := by decide
  complete := by decide
  lines := ⟨rfl, rfl⟩

/-- The invariant does not look at the turns. -/
theorem invariant_turning {s : State} (h : Invariant s) (t : Turn) : Invariant (turning t s) :=
  ⟨h.1, h.2, h.3, h.4, h.5, h.6, h.7, h.8, h.9, h.10, h.11, h.12, h.13⟩

theorem witness_EveryStepKeepsTheInvariant : Invariant (turning .block (inS1 .cell 2 0)) ∧
    step (turning .block (inS1 .cell 2 0)) = .next { inS1 .colOn 2 0 with ticks := 1 } :=
  ⟨invariant_turning witness_Inv_cell _, rfl⟩
theorem witness_NoRedundant_rowAssert : Invariant (turning .block (inS1 .rowEn 0 0)) ∧
    field (step (turning .block (inS1 .rowEn 0 0))) (·.trace) = some ([] ++ [.rowAssert 1]) :=
  ⟨invariant_turning witness_Inv_rowEn _, by decide⟩
theorem witness_NoRedundant_rowDeassert : Invariant (turning .block (inS1 .rowDis 2 0)) ∧
    field (step (turning .block (inS1 .rowDis 2 0))) (·.trace) = some ([] ++ [.rowDeassert 1]) :=
  ⟨invariant_turning witness_Inv_rowDis _, by decide⟩
theorem witness_NoRedundant_colAssert : Invariant (turning .block (inS1 .colOn 2 0)) ∧
    field (step (turning .block (inS1 .colOn 2 0))) (·.trace) = some ([] ++ [.colAssert 2]) :=
  ⟨invariant_turning witness_Inv_colOn _, by decide⟩
theorem witness_NoRedundant_colDeassert : Invariant (turning .block (inS1 .colOff 2 4)) ∧
    field (step (turning .block (inS1 .colOff 2 4))) (·.trace) = some ([] ++ [.colDeassert 2]) :=
  ⟨invariant_turning witness_Inv_colOff _, by decide⟩

theorem witness_OneRowInEveryRun : Memory.wf { depth := 1, cells := [] } = true ∧
    core.run 1 { State.reset with mem := { depth := 1, cells := [] }, turns := [.host 0x1300000064] } =
      .next { State.reset with mem := { depth := 1, cells := [] }, total := 100, ticks := 1 } := by
  exact ⟨by decide, rfl⟩

end Sys2Proof.Tests
end

/-! PROOF. The turn of each agent runs the instruction its word decodes to (O7). -/

namespace Sys2Proof.Machine

/-- The turn at the head of the list is taken, the rest of the list stays (log 3). -/
theorem turnTaken_cons {s : State} {t : Turn} {ts : List Turn} (h : s.turns = t :: ts) :
    s.turnTaken = { s with turns := ts, ticks := s.ticks + 1 } := by
  rw [State.turnTaken, h, List.tail_cons]

/-- A step takes the turn at the head of the list (R10). -/
theorem step_of_turns {s : State} {t : Turn} {ts : List Turn} (h : s.turns = t :: ts) :
    step s = takeTurn t { s with turns := ts, ticks := s.ticks + 1 } := by
  rw [step_eq, nextTurn_cons h, turnTaken_cons h]

/-- A command by itself is gated as the write that carries it; to NOP the gate makes no difference (R197, R200;
log 16). -/
theorem exec_decodeCmd (d : Word) (s : State) :
    exec (decodeCmd d) s = .next (s.whenIdle (State.takeCommand (cmdOf d))) := by
  unfold decodeCmd
  cases cmdOf d with
  | nop => exact congrArg Host.Outcome.next (ite_self s).symm
  | render | play | rsvd => rfl

/-- A write of `CTRL` is the command its data decodes to (R86, R197). -/
theorem exec_csrWr_ctrl (d : Word) (s : State) : exec (.csrWr 0 d) s = exec (decodeCmd d) s := by
  rw [exec_decodeCmd]
  rfl

end Sys2Proof.Machine

section
open Sys2Proof Sys2Proof.Machine

/-- Settles O7, clause by clause: each decoder is total on its agent's words, so the instruction of the statement is the
one that the turn runs. -/
theorem stepRunsTheDecodedInstruction : Obligations.StepRunsTheDecodedInstruction := by
  intro s rest i
  refine ⟨fun ht hw hi => ?_, fun w ht hi => ?_, fun d hi => ?_⟩
  · rw [decode_step, decodeStep_stCode, Except.ok.injEq] at hi
    rw [step_of_turns ht, takeTurn, blockTurn_eq, ← hi]
    simp [hw]
  · rw [decode_access, Except.ok.injEq] at hi
    rw [step_of_turns ht, takeTurn, hi]
  · rw [decode_cmd, Except.ok.injEq] at hi
    rw [exec_csrWr_ctrl, hi]

end

/-! PROOF. Every render ends within its bound (R167), and its enabled steps are single steps of the machine (O38). -/

namespace Sys2Proof.Machine

/-! ### The measure of a render -/

/-- What holds along an undisturbed render from S_NORM on: the block is in one of the render's states, a wait is pending
in S_DARK and S_PULSE only (R150), and a scan pass is one of those still to be made (R30). -/
structure State.Rendering (s : State) : Prop where
  notIdle : s.st ≠ .idle
  notFetch : s.st ≠ .fetch
  wait : s.wpend = true → s.st = .dark ∨ s.st = .pulse
  passes : scanning s.st = true → s.pass.toNat < s.pcnt.toNat

/-- The most enabled steps from the end of the present row to the end of the render: a row takes at most 22, its two
line operations and 5 for each cell, and a pass 88 (R167). -/
def State.stepsAfterRow (s : State) : Nat := 22 * (3 - s.row.toNat) + 88 * (s.pcnt.toNat - s.pass.toNat - 1)

/-- The most enabled steps from S_CELL to the end of the row: 5 for each cell not yet passed, then S_ROW_DIS. -/
def State.stepsOfCells (s : State) : Nat := 5 * (4 - s.col.toNat) + 1

/-- The most enabled steps a render still takes (R150, R167). -/
def State.stepsLeft (s : State) : Nat :=
  match s.st with
  | .norm => 3 + 88 * (normPcnt s.frame s.total s.minp).toNat
  | .dark => if s.wpend then 1 else 2
  | .rowEn => 22 + s.stepsAfterRow
  | .cell => s.stepsOfCells + s.stepsAfterRow
  | .colOn => s.stepsOfCells - 1 + s.stepsAfterRow
  | .pulse => s.stepsOfCells - (if s.wpend then 3 else 2) + s.stepsAfterRow
  | .colOff => s.stepsOfCells - 4 + s.stepsAfterRow
  | .rowDis => 1 + s.stepsAfterRow
  | .idle | .fetch | .done | .fault => 0

/-- `t` is of the same render as `s`, nearer to its end. -/
def State.Advances (s t : State) : Prop := t.Rendering ∧ t.stepsLeft < s.stepsLeft

/-- The index after a line that is not the last (R31). -/
theorem lineIdx_succ {i : LineIdx} (h : i ≠ 3) : (i + 1).toNat = i.toNat + 1 := by
  revert i; decide

/-- Past a column at most the cells after it remain of the row (R155, R159). -/
theorem State.stepsLeft_nextColumn (s : State) :
    s.nextColumn.stepsLeft = 5 * (3 - s.col.toNat) + 1 + s.stepsAfterRow := by
  unfold State.nextColumn
  by_cases h : s.col = 3
  · simp [h, State.stepsLeft, State.stepsAfterRow]
  · have hc := lineIdx_succ h
    simp only [h, if_false, State.stepsLeft, State.stepsAfterRow, State.stepsOfCells, hc]
    omega

theorem State.rendering_nextColumn {s : State} (hw : s.wpend = false) (hp : s.pass.toNat < s.pcnt.toNat) :
    s.nextColumn.Rendering := by
  unfold State.nextColumn
  split <;> exact ⟨by simp, by simp, by simp [hw], fun _ => hp⟩

/-- Past a row the render is in one of its passes, or has ended; at most the rows after it remain (R160). -/
theorem State.nextRow_spec {s : State} (hw : s.wpend = false) (hp : s.pass.toNat < s.pcnt.toNat) :
    s.nextRow.Rendering ∧ s.nextRow.stepsLeft ≤ s.stepsAfterRow := by
  have hpc := s.pcnt.isLt
  unfold State.nextRow
  by_cases hr : s.row = 3
  · by_cases hl : s.pass.toNat + 1 = s.pcnt.toNat
    · simp only [hr, hl, if_true]
      exact ⟨⟨by simp, by simp, by simp [hw], by simp [scanning]⟩, by simp [State.stepsLeft]⟩
    · have hs : (passSucc s.pass).toNat = s.pass.toNat + 1 := by
        rw [passSucc_of_lt (by omega), BitVec.toNat_add_of_lt (by simp; omega)]
        rfl
      simp only [hr, hl, if_true, if_false]
      refine ⟨⟨by simp, by simp, by simp [hw], fun _ => ?_⟩, ?_⟩
      · simp only [hs]
        omega
      · simp [State.stepsLeft, State.stepsAfterRow, hs, hr]
        omega
  · have hs := lineIdx_succ hr
    simp only [hr, if_false]
    refine ⟨⟨by simp, by simp, by simp [hw], fun _ => hp⟩, ?_⟩
    simp only [State.stepsLeft, State.stepsAfterRow, hs]
    omega

/-! ### Every enabled step advances the render -/

/-- S_NORM starts the dark wait, ends the render, or starts the first of its passes (R135). -/
theorem State.advances_normStep {s : State} (hst : s.st = .norm) (hw : s.wpend = false) : s.Advances s.normStep := by
  rw [State.normStep, State.whenFree_of_free hw]
  have hs : s.stepsLeft = 3 + 88 * (normPcnt s.frame s.total s.minp).toNat := by rw [State.stepsLeft, hst]
  rw [State.Advances, hs]
  rcases normNext_cases s.frame s.total s.minp with ⟨-, -, -, hn⟩ | ⟨-, -, hn⟩ | ⟨-, hc, hn⟩
  · refine ⟨⟨?_, ?_, ?_, ?_⟩, ?_⟩ <;> simp [hn, hw, scanning, State.stepsLeft]
    omega
  · refine ⟨⟨?_, ?_, ?_, ?_⟩, ?_⟩ <;> simp [hn, hw, scanning, State.stepsLeft]
  · have hpos : 0 < (normPcnt s.frame s.total s.minp).toNat :=
      Nat.pos_of_ne_zero fun h => hc (BitVec.eq_of_toNat_eq h)
    refine ⟨⟨?_, ?_, ?_, ?_⟩, ?_⟩ <;> simp [hn, hw, State.stepsLeft, State.stepsAfterRow, hpos]
    omega

/-- A line operation advances the render if what follows its success does: its failure ends the render (R118, R216). -/
theorem State.advances_issueLine {s : State} {op : LineOp} {k : State → State} (hpos : 0 < s.stepsLeft)
    (hk : s.Advances (k ((s.record (lineEvent op)).answered.drive op))) : s.Advances (s.issueLine op k) := by
  rcases s.issueLine_cases op k with ⟨-, h⟩ | ⟨-, h⟩
  · rw [h]
    exact ⟨⟨by simp, by simp, by simp, by simp [scanning]⟩, by simpa [State.stepsLeft] using hpos⟩
  · rwa [h]

/-- A line operation leaves the place in the pass as it is. -/
theorem State.stepsAfterRow_driven (e : Event) (op : LineOp) (s : State) :
    ((s.record e).answered.drive op).stepsAfterRow = s.stepsAfterRow := by
  simp [State.stepsAfterRow]

/-- S_ROW_EN (R154). -/
theorem State.advances_rowEnStep {s : State} (hst : s.st = .rowEn) (hw : s.wpend = false)
    (hp : s.pass.toNat < s.pcnt.toNat) : s.Advances s.rowEnStep := by
  have hs : s.stepsLeft = 22 + s.stepsAfterRow := by rw [State.stepsLeft, hst]
  rw [State.rowEnStep, State.whenFree_of_free hw]
  refine State.advances_issueLine (by omega) ⟨⟨by simp, by simp, by simp [hw], by simp [hp]⟩, ?_⟩
  rw [hs]
  simp [State.stepsLeft, State.stepsOfCells, State.stepsAfterRow]

/-- S_CELL: a lit cell costs its column operations, an unlit one is passed (R155). -/
theorem State.advances_cellStep {s : State} (hst : s.st = .cell) (hw : s.wpend = false)
    (hp : s.pass.toNat < s.pcnt.toNat) : s.Advances s.cellStep := by
  have hs : s.stepsLeft = s.stepsOfCells + s.stepsAfterRow := by rw [State.stepsLeft, hst]
  rw [State.cellStep, State.whenFree_of_free hw]
  by_cases hl : cellLit s.frame s.row s.col = true
  · rw [if_pos hl]
    refine ⟨⟨by simp, by simp, by simp [hw], fun _ => hp⟩, ?_⟩
    rw [hs]
    simp [State.stepsLeft, State.stepsOfCells, State.stepsAfterRow]
  · have hn : (if s.col = 3 then { s with st := .rowDis } else { s with col := s.col + 1 }) = s.nextColumn := by
      simp [State.nextColumn, ← hst]
    rw [if_neg hl, hn]
    refine ⟨State.rendering_nextColumn hw hp, ?_⟩
    have hc := s.col.isLt
    rw [State.stepsLeft_nextColumn, hs, State.stepsOfCells]
    omega

/-- S_COL_ON (R156). -/
theorem State.advances_colOnStep {s : State} (hst : s.st = .colOn) (hw : s.wpend = false)
    (hp : s.pass.toNat < s.pcnt.toNat) : s.Advances s.colOnStep := by
  have hs : s.stepsLeft = 5 * (4 - s.col.toNat) + s.stepsAfterRow := by rw [State.stepsLeft, hst]; rfl
  have hc := s.col.isLt
  rw [State.colOnStep, State.whenFree_of_free hw]
  refine State.advances_issueLine (by omega) ⟨⟨by simp, by simp, by simp [hw], by simp [hp]⟩, ?_⟩
  rw [hs]
  simp [State.stepsLeft, State.stepsOfCells, State.stepsAfterRow, hw]
  omega

/-- S_COL_OFF (R159). -/
theorem State.advances_colOffStep {s : State} (hst : s.st = .colOff) (hw : s.wpend = false)
    (hp : s.pass.toNat < s.pcnt.toNat) : s.Advances s.colOffStep := by
  have hs : s.stepsLeft = s.stepsOfCells - 4 + s.stepsAfterRow := by rw [State.stepsLeft, hst]
  have hc := s.col.isLt
  rw [State.stepsOfCells] at hs
  rw [State.colOffStep, State.whenFree_of_free hw]
  refine State.advances_issueLine (by omega) ⟨State.rendering_nextColumn (by simp [hw]) (by simp [hp]), ?_⟩
  rw [State.stepsLeft_nextColumn, State.stepsAfterRow_driven, hs]
  simp
  omega

/-- S_ROW_DIS (R160). -/
theorem State.advances_rowDisStep {s : State} (hst : s.st = .rowDis) (hw : s.wpend = false)
    (hp : s.pass.toNat < s.pcnt.toNat) : s.Advances s.rowDisStep := by
  have hs : s.stepsLeft = 1 + s.stepsAfterRow := by rw [State.stepsLeft, hst]
  rw [State.rowDisStep, State.whenFree_of_free hw]
  obtain ⟨hr, hle⟩ := State.nextRow_spec (s := (s.record (lineEvent (.rowDe s.row))).answered.drive (.rowDe s.row))
    (by simp [hw]) (by simp [hp])
  rw [State.stepsAfterRow_driven] at hle
  exact State.advances_issueLine (by omega) ⟨hr, by omega⟩

/-- S_DARK issues its wait (R152). -/
theorem State.advances_darkStep {s : State} (hst : s.st = .dark) (hw : s.wpend = false) : s.Advances s.darkStep := by
  refine ⟨⟨?_, ?_, ?_, ?_⟩, ?_⟩ <;> simp [State.darkStep, State.stepsLeft, hst, hw, scanning]

/-- S_PULSE issues its wait (R157). -/
theorem State.advances_pulseStep {s : State} (hst : s.st = .pulse) (hw : s.wpend = false)
    (hp : s.pass.toNat < s.pcnt.toNat) : s.Advances s.pulseStep := by
  have hc := s.col.isLt
  refine ⟨⟨?_, ?_, ?_, ?_⟩, ?_⟩ <;> simp [State.pulseStep, State.stepsLeft, hst, hw, hp]
  simp [State.stepsOfCells, State.stepsAfterRow]
  omega

/-- The completion of a render's wait (R153, R158). -/
theorem State.advances_completeWait {s : State} (h : s.Rendering) (hw : s.wpend = true) :
    s.Advances s.completeWait := by
  rcases s.completeWait_cases with ⟨hst, hc⟩ | ⟨hst, hc⟩ | ⟨hd, hp, -⟩
  · rw [hc]
    refine ⟨⟨?_, ?_, ?_, ?_⟩, ?_⟩ <;> simp [State.stepsLeft, hst, hw, scanning]
  · have hp := h.passes (by rw [hst]; rfl)
    have hcol := s.col.isLt
    rw [hc]
    refine ⟨⟨?_, ?_, ?_, ?_⟩, ?_⟩ <;> simp [State.stepsLeft, hst, hw, hp]
    simp [State.stepsOfCells, State.stepsAfterRow]
    omega
  · rcases h.wait hw with h | h
    · exact absurd h hd
    · exact absurd h hp

/-- Until the render has ended every enabled step takes it nearer to its end (R150, R167). -/
theorem State.advances_renderStep {s : State} (h : s.Rendering) (ho : s.renderOver = false) :
    s.Advances s.renderStep := by
  cases hw : s.wpend with
  | true =>
    rw [State.renderStep, if_pos hw]
    exact State.advances_completeWait h hw
  | false =>
    have hp := h.passes
    have hi := h.notIdle
    have hf := h.notFetch
    cases hst : s.st <;> simp only [State.renderStep, hw, hst, Bool.false_eq_true, if_false]
    case idle => exact absurd hst hi
    case fetch => exact absurd hst hf
    case norm => exact State.advances_normStep hst hw
    case dark => exact State.advances_darkStep hst hw
    case rowEn => exact State.advances_rowEnStep hst hw (hp (by rw [hst]; rfl))
    case cell => exact State.advances_cellStep hst hw (hp (by rw [hst]; rfl))
    case colOn => exact State.advances_colOnStep hst hw (hp (by rw [hst]; rfl))
    case pulse => exact State.advances_pulseStep hst hw (hp (by rw [hst]; rfl))
    case colOff => exact State.advances_colOffStep hst hw (hp (by rw [hst]; rfl))
    case rowDis => exact State.advances_rowDisStep hst hw (hp (by rw [hst]; rfl))
    case done | fault => simp [State.renderOver, hst] at ho

/-! ### A render ends within its bound -/

/-- A render with no step left has ended. -/
theorem State.renderOver_of_stepsLeft_zero {s : State} (h : s.Rendering) (h0 : s.stepsLeft = 0) :
    s.renderOver = true := by
  cases ho : s.renderOver with
  | true => rfl
  | false => exact absurd (State.advances_renderStep h ho).2 (by omega)

/-- As many enabled steps as the measure says end the render (R167). -/
theorem State.renderOver_renderSteps (k : Nat) {s : State} (h : s.Rendering) (hk : s.stepsLeft ≤ k) :
    (State.renderSteps k s).renderOver = true := by
  induction k generalizing s with
  | zero => exact State.renderOver_of_stepsLeft_zero h (Nat.le_zero.mp hk)
  | succ k ih =>
    cases ho : s.renderOver with
    | true => rwa [State.renderSteps_over ho]
    | false =>
      obtain ⟨hr, hlt⟩ := State.advances_renderStep h ho
      rw [State.renderSteps, if_neg (by simp [ho])]
      exact ih hr (by omega)

/-- A free block in S_NORM is at the beginning of a render. -/
theorem State.rendering_norm {s : State} (hst : s.st = .norm) (hw : s.wpend = false) : s.Rendering :=
  ⟨by simp [hst], by simp [hst], by simp [hw], by simp [hst, scanning]⟩

/-- From S_NORM the render of the word in `FRAME` is the enabled steps of the state as it stands (R182, R183). -/
theorem State.runFrame_self {s : State} (hst : s.st = .norm) :
    s.runFrame s.frame = State.renderSteps (renderBound s.frame s.total s.minp) s := by
  rw [State.runFrame, ← hst]

/-- The render of a frame word ends within `renderBound` (R167). -/
theorem State.renderOver_runFrame (f : FrameWord) {s : State} (hw : s.wpend = false) :
    (s.runFrame f).renderOver = true := by
  refine State.renderOver_renderSteps _ (State.rendering_norm rfl hw) ?_
  simp only [State.stepsLeft, renderBound]
  omega

/-! ### The schedule of a render's single steps -/

/-- The turns of at most `k` enabled steps of a render: the delay source's while a wait is pending, else the block's
(R150). -/
def State.renderTurns : Nat → State → List Turn
  | 0, _ => []
  | k + 1, s =>
    if s.renderOver then [] else (if s.wpend then .delay else .block) :: State.renderTurns k s.renderStep

theorem State.renderTurns_over {s : State} (h : s.renderOver = true) (k : Nat) : State.renderTurns k s = [] := by
  cases k <;> simp [State.renderTurns, h]

theorem State.renderTurns_succ {s : State} (h : s.renderOver = false) (k : Nat) :
    State.renderTurns (k + 1) s = (if s.wpend then .delay else .block) :: State.renderTurns k s.renderStep := by
  simp [State.renderTurns, h]

/-- The host takes no turn in a render's schedule (R10). -/
theorem undisturbed_renderTurns (k : Nat) (s : State) : undisturbed (State.renderTurns k s) := by
  induction k generalizing s with
  | zero => simp [undisturbed, State.renderTurns]
  | succ k ih =>
    cases ho : s.renderOver with
    | true => simp [undisturbed, State.renderTurns_over ho]
    | false =>
      rw [State.renderTurns_succ ho]
      refine List.forall_mem_cons.mpr ⟨?_, ih _⟩
      cases s.wpend <;> simp

/-- A run whose first step is known goes on from there (R3). -/
theorem run_succ_of_step {M : Host.Core} {s t : M.State} (h : M.step s = .next t) (k : Nat) :
    M.run (k + 1) s = M.run k t := by
  rw [Host.Core.run, h]

/-- The enabled steps of a render are single steps of the machine on the render's schedule, from any count of steps
(R3, R150). -/
theorem run_renderTurns (k : Nat) {s : State} (h : s.Rendering) (rest : List Turn) (n : Nat) :
    core.run (State.renderTurns k s).length { s with turns := State.renderTurns k s ++ rest, ticks := n } =
      .next { State.renderSteps k s with turns := rest, ticks := n + (State.renderTurns k s).length } := by
  induction k generalizing s n with
  | zero => rfl
  | succ k ih =>
    cases ho : s.renderOver with
    | true =>
      rw [State.renderTurns_over ho, State.renderSteps_over ho]
      rfl
    | false =>
      have hd : s.st ≠ .done := fun hd => by simp [State.renderOver, hd] at ho
      have hstep : step { s with turns := State.renderTurns (k + 1) s ++ rest, ticks := n } =
          .next { s.renderStep with turns := State.renderTurns k s.renderStep ++ rest, ticks := n + 1 } := by
        rw [State.renderTurns_succ ho]
        refine (step_renderStep (s := { s with ticks := n }) _ h.notFetch hd).trans ?_
        rw [State.renderStep_turns s s.turns n]
        rfl
      have hlen : (State.renderTurns (k + 1) s).length = (State.renderTurns k s.renderStep).length + 1 := by
        rw [State.renderTurns_succ ho, List.length_cons]
      have hs : State.renderSteps (k + 1) s = State.renderSteps k s.renderStep := by
        rw [State.renderSteps, if_neg (by simp [ho])]
      rw [hlen, run_succ_of_step (M := core) hstep, ih (State.advances_renderStep h ho).1, hs, Nat.add_right_comm n 1]
      rfl

/-- Executing a frame word is its render (R182, R183; log 8). -/
theorem exec_decodeFrame (f : FrameWord) (s : State) : exec (decodeFrame f) s = .next (s.runFrame f) := by
  rcases decodeFrame_cases f with ⟨h0, h⟩ | ⟨-, h⟩
  · rw [h, h0]
    rfl
  · rw [h]
    rfl

end Sys2Proof.Machine

section
open Sys2Proof Sys2Proof.Machine

/-- Settles O38: the schedule is that of the render's enabled steps, each of which is one step of the machine; the
measure of the render says that they reach its end. -/
theorem frameWordIsARowOfSingleSteps : Obligations.FrameWordIsARowOfSingleSteps := by
  intro s rest i hst hw hi
  rw [decode_frame, Except.ok.injEq] at hi
  refine ⟨State.renderTurns (renderBound s.frame s.total s.minp) s, s.runFrame s.frame, _, undisturbed_renderTurns _ s,
    ?_, ?_, run_renderTurns _ (State.rendering_norm hst hw) rest s.ticks, ?_⟩
  · rw [← hi, exec_decodeFrame]
  · simpa [State.renderOver] using State.renderOver_runFrame s.frame hw
  · rw [State.runFrame_self hst]

end

/-! PROOF. The invariant of the reachable states: it holds at reset, and every turn of every agent keeps it (O55,
O56). -/

namespace Sys2Proof.Machine

/-! ### The lit count and the lines -/

/-- No frame has more than sixteen lit cells (R130). -/
theorem litNat_le (f : FrameWord) : litNat f ≤ 16 := by
  have h := List.sum_le_card_nsmul ((List.range 16).map fun i => (f.getLsbD i).toNat) 1
    (by simp [Bool.toNat_le])
  simpa [litNat] using h

/-- Only the dark frame has no lit cell (R130). -/
theorem litNat_eq_zero_iff (f : FrameWord) : litNat f = 0 ↔ f = 0 := by
  refine ⟨fun h => BitVec.eq_of_getLsbD_eq fun i hi => ?_, fun h => by subst h; decide⟩
  have hbits := List.sum_eq_zero_iff.mp h
  simpa using hbits (f.getLsbD i).toNat (List.mem_map.mpr ⟨i, List.mem_range.mpr hi, rfl⟩)

/-- The lit count fits its five bits (R130). -/
theorem toNat_litcount (f : FrameWord) : (litcount f).toNat = litNat f := by
  have h := litNat_le f
  rw [litcount, BitVec.toNat_ofNat, Nat.mod_eq_of_lt (by omega)]

/-- The lit count is 0 exactly for the dark frame (R130). -/
theorem litcount_eq_zero_iff (f : FrameWord) : litcount f = 0 ↔ f = 0 := by
  rw [← litNat_eq_zero_iff, ← toNat_litcount, ← BitVec.toNat_inj]
  rfl

/-- The dark frame has no pass (R29, R135). -/
theorem normPcnt_zero (t m : Word) : normPcnt 0 t m = 0 := by
  rw [normPcnt, if_pos ((litcount_eq_zero_iff 0).mpr rfl)]

/-- A line operation's code is below 16 (R89). -/
theorem toNat_lineCode_lt (op : LineOp) : (lineCode op).toNat < 16 := by
  cases op with
  | rowDe i | rowAs i | colDe i | colAs i =>
    revert i
    decide

/-! ### What holds of a block at work, and the invariant state by state -/

/-- What the invariant says of a busy block in whichever of its states: no fault is recorded, and the parameters allow
the render (R39, R42, R138, R202). -/
structure State.Underway (s : State) : Prop where
  memory : s.mem.wf = true
  cause : s.fcause = .none
  info : s.finfo = 0
  doneFlag : s.done = false
  pulseWidth : s.minp ≠ 0
  sequence : s.mode = .play →
    s.fps ≠ 0 ∧ s.base.toNat + s.len.toNat ≤ s.mem.depth ∧ s.fp.toNat < s.len.toNat

/-- What the invariant says of a block past S_NORM, in whichever state: the normalizer's results stand (R27 to R29). -/
structure State.Normalized (s : State) : Prop extends s.Underway where
  lit : s.lit = litcount s.frame
  pdur : s.pdur = normPdur s.frame s.minp
  pcnt : s.pcnt = normPcnt s.frame s.total s.minp

/-- What the invariant says of a block in a scan pass, in whichever state: the frame is lit, and the pass is one of
those still to be made (R30). -/
structure State.InPass (s : State) : Prop extends s.Normalized where
  frame : s.frame ≠ 0
  pass : s.pass.toNat < s.pcnt.toNat

/-- A busy block is neither idle nor faulted (R40). -/
theorem State.busy_iff (s : State) : s.busy = true ↔ s.st ≠ .idle ∧ s.st ≠ .fault := by
  simp [State.busy]

/-- Past S_NORM the block is busy (R40, R150). -/
theorem State.busy_of_pastNorm {s : State} (h : pastNorm s.st = true) : s.busy = true := by
  cases hs : s.st <;> simp_all [pastNorm, State.busy]

/-- A scan pass comes after S_NORM (R150). -/
theorem pastNorm_of_scanning {st : St} (h : scanning st = true) : pastNorm st = true := by
  cases st <;> simp_all [pastNorm, scanning]

theorem Invariant.underway {s : State} (h : Invariant s) (hb : s.busy = true) : s.Underway := by
  obtain ⟨hi, hf⟩ := s.busy_iff.mp hb
  have hc : s.fcause = .none := not_not.mp fun hc => hf (h.cause.mp hc)
  refine ⟨h.memory, hc, ?_, ?_, h.pulseWidth hb, h.sequence hb⟩
  · simpa [hc] using h.info
  · simpa [hi] using h.doneFlag

theorem Invariant.normalizedState {s : State} (h : Invariant s) (hs : pastNorm s.st = true) : s.Normalized := by
  obtain ⟨hl, hd, hc⟩ := h.normalized hs
  exact ⟨h.underway (State.busy_of_pastNorm hs), hl, hd, hc⟩

theorem Invariant.inPass {s : State} (h : Invariant s) (hs : scanning s.st = true) : s.InPass := by
  obtain ⟨hf, hp⟩ := h.passes hs
  exact ⟨h.normalizedState (pastNorm_of_scanning hs), hf, hp⟩

/-- The invariant in S_IDLE. -/
theorem invariant_of_idle {s : State} (hst : s.st = .idle) (hm : s.mem.wf = true) (hw : s.wpend = false)
    (hc : s.fcause = .none) (hi : s.finfo = 0) (hr : s.rowl = 0) (hl : s.coll = 0) : Invariant s := by
  constructor <;> simp [hst, hm, hw, hc, hi, hr, hl, pastNorm, scanning, LinesInv, State.busy]

/-- The invariant in S_FETCH, of a PLAY (R33). -/
theorem invariant_of_fetch {s : State} (hst : s.st = .fetch) (hu : s.Underway) (hmode : s.mode = .play)
    (hw : s.wpend = false) (hl : LinesInv s) : Invariant s := by
  refine ⟨hu.memory, ?_, ?_, .inl hu.info, ?_, fun _ => hu.pulseWidth, fun _ => hu.sequence, fun _ => hmode,
    ?_, ?_, ?_, ?_, hl⟩ <;> simp [hst, hw, hu.cause, hu.doneFlag, pastNorm, scanning]

/-- The invariant in S_NORM. -/
theorem invariant_of_norm {s : State} (hst : s.st = .norm) (hu : s.Underway) (hw : s.wpend = false)
    (hl : LinesInv s) : Invariant s := by
  refine ⟨hu.memory, ?_, ?_, .inl hu.info, ?_, fun _ => hu.pulseWidth, fun _ => hu.sequence, ?_,
    ?_, ?_, ?_, ?_, hl⟩ <;> simp [hst, hw, hu.cause, hu.doneFlag, pastNorm, scanning]

/-- The invariant in S_DARK, wait pending or not (R135, R152). -/
theorem invariant_of_dark {s : State} (hst : s.st = .dark) (hn : s.Normalized) (hf : s.frame = 0) (hp : s.pass = 0)
    (hl : LinesInv s) : Invariant s := by
  refine ⟨hn.memory, fun _ => .inl hst, ?_, .inl hn.info, ?_, fun _ => hn.pulseWidth, fun _ => hn.sequence, ?_,
    fun _ => ⟨hn.lit, hn.pdur, hn.pcnt⟩, fun _ => ⟨hf, hp⟩, ?_, ?_, hl⟩ <;>
    simp [hst, hn.cause, hn.doneFlag, scanning]

/-- The invariant in a state of a scan pass, where a wait is pending in S_PULSE only (R41). -/
theorem invariant_of_scanning {s : State} (hs : scanning s.st = true) (hp : s.InPass)
    (hw : s.wpend = true → s.st = .pulse) (hl : LinesInv s) : Invariant s := by
  have hb := State.busy_of_pastNorm (pastNorm_of_scanning hs)
  refine ⟨hp.memory, fun h => .inr (hw h), ?_, .inl hp.info, ?_, fun _ => hp.pulseWidth, fun _ => hp.sequence, ?_,
    fun _ => ⟨hp.lit, hp.pdur, hp.pcnt⟩, ?_, fun _ => ⟨hp.frame, hp.pass⟩, ?_, hl⟩
  · simp [hp.cause, (s.busy_iff.mp hb).2]
  · simp [hp.doneFlag]
  all_goals
    intro hst
    simp [hst, scanning] at hs

/-- The invariant in S_DONE, where all passes have been made (R161). -/
theorem invariant_of_done {s : State} (hst : s.st = .done) (hn : s.Normalized) (hp : s.pass = s.pcnt)
    (hw : s.wpend = false) (hl : LinesInv s) : Invariant s := by
  refine ⟨hn.memory, ?_, ?_, .inl hn.info, ?_, fun _ => hn.pulseWidth, fun _ => hn.sequence, ?_,
    fun _ => ⟨hn.lit, hn.pdur, hn.pcnt⟩, ?_, ?_, fun _ => hp, hl⟩ <;>
    simp [hst, hw, hn.cause, hn.doneFlag, scanning]

/-! ### What every operation keeps -/

/-- The invariant does not look at the trace, at `csr_rdata` or at the model's own fields (R11, R48). -/
theorem Invariant.of_sameRegisters {s t : State} (h : Invariant s)
    (heq : t = { s with trace := t.trace, csrRdata := t.csrRdata, turns := t.turns, answers := t.answers,
                        draws := t.draws, ticks := t.ticks }) : Invariant t := by
  rw [heq]
  exact { h with }

/-- The lines of every state are lines that a fault may find (R166, R222). -/
theorem LinesInv.enterFault {s : State} (h : LinesInv s) (c : Cause) (info : UopCode) :
    LinesInv (s.enterFault c info) := by
  simp only [LinesInv, State.enterFault_st]
  cases hst : s.st <;> simp only [LinesInv, hst] at h
  case idle | fetch | norm | dark | rowEn | done => exact .inl h
  case cell | rowDis => exact .inr (.inl h)
  case colOn =>
    obtain ⟨hr, hc, -⟩ := h
    exact .inr (.inl ⟨hr, hc⟩)
  case pulse | colOff => exact .inr (.inr h)
  case fault => exact h

/-- Fault entry, with a cause and with `FINFO` as R42 has it, from a state with `DONE` clear (R222). -/
theorem invariant_enterFault {s : State} {c : Cause} {info : UopCode} (hm : s.mem.wf = true) (hd : s.done = false)
    (hl : LinesInv s) (hc : c ≠ .none) (hi : info = 0 ∨ (c = .hardwareFault ∧ info.toNat < 16)) :
    Invariant (s.enterFault c info) := by
  refine ⟨hm, ?_, ?_, hi, ?_, ?_, ?_, ?_, ?_, ?_, ?_, ?_, hl.enterFault c info⟩ <;>
    simp [hc, hd, pastNorm, scanning, State.busy]

/-- A line operation keeps the invariant if what follows its success does: its failure is a fault entry with its own
code (R118, R216). -/
theorem invariant_issueLine {s : State} {op : LineOp} {k : State → State} (h : Invariant s) (hd : s.done = false)
    (hk : Invariant (k ((s.record (lineEvent op)).answered.drive op))) : Invariant (s.issueLine op k) := by
  rcases s.issueLine_cases op k with ⟨-, hf⟩ | ⟨-, hs⟩
  · have hr : Invariant (s.record (lineEvent op)).answered := h.of_sameRegisters rfl
    rw [hf]
    exact invariant_enterFault hr.memory hd hr.lines (by simp) (.inr ⟨rfl, toNat_lineCode_lt op⟩)
  · rwa [hs]

/-- What a scan pass rests on is no commanded line. -/
theorem State.InPass.drive {s : State} (h : s.InPass) (op : LineOp) : (s.drive op).InPass := by
  cases op <;> exact { h with }

/-- A line operation leaves what a scan pass rests on as it is. -/
theorem State.InPass.driven {s : State} (h : s.InPass) (op : LineOp) :
    ((s.record (lineEvent op)).answered.drive op).InPass := by
  have hr : (s.record (lineEvent op)).answered.InPass := { h with }
  exact hr.drive op

/-! ### The steps of the block -/

/-- S_FETCH from an address of the store, which a running PLAY's always is (R62, R181). -/
theorem Invariant.fetched {s : State} (h : Invariant s) (hst : s.st = .fetch) (hw : s.wpend = false) (w : FrameWord) :
    Invariant (s.fetched w) :=
  invariant_of_norm rfl { h.underway (s.busy_iff.mpr (by simp [hst])) with } hw
    (by simpa [LinesInv, hst] using h.lines)

/-- S_NORM writes what the invariant says of its results (R135). -/
theorem State.Underway.normalize {s : State} (h : s.Underway) : s.normalize.Normalized where
  memory := by simpa using h.memory
  cause := by simpa using h.cause
  info := by simpa using h.info
  doneFlag := by simpa using h.doneFlag
  pulseWidth := by simpa using h.pulseWidth
  sequence := by simpa using h.sequence
  lit := by simp
  pdur := by simp
  pcnt := by simp

/-- S_NORM (R135). -/
theorem Invariant.normStep {s : State} (h : Invariant s) (hst : s.st = .norm) (hw : s.wpend = false) :
    Invariant s.normStep := by
  have hn := (h.underway (s.busy_iff.mpr (by simp [hst]))).normalize
  have hl : s.rowl = 0 ∧ s.coll = 0 := by simpa [LinesInv, hst] using h.lines
  rw [State.normStep, State.whenFree_of_free hw]
  rcases normNext_cases s.frame s.total s.minp with ⟨h0, -, -, hnext⟩ | ⟨-, h0, hnext⟩ | ⟨hlit, h0, hnext⟩
  · exact invariant_of_dark (by simp [hnext]) hn (by simpa using (litcount_eq_zero_iff _).mp h0) (by simp)
      (by simpa [LinesInv, hnext] using hl)
  · exact invariant_of_done (by simp [hnext]) hn (by simp [h0]) (by simpa using hw)
      (by simpa [LinesInv, hnext] using hl)
  · have hf : s.frame ≠ 0 := fun hf => hlit ((litcount_eq_zero_iff _).mpr hf)
    have hpos : 0 < (normPcnt s.frame s.total s.minp).toNat :=
      Nat.pos_of_ne_zero fun hz => h0 (BitVec.eq_of_toNat_eq hz)
    have hp : s.normalize.InPass := { hn with frame := by simpa using hf, pass := by simpa using hpos }
    exact invariant_of_scanning (by simp [hnext, scanning]) hp (by simp [hw]) (by simpa [LinesInv, hnext] using hl)

/-- S_DARK issues its wait (R152). -/
theorem Invariant.darkStep {s : State} (h : Invariant s) (hst : s.st = .dark) (hw : s.wpend = false) :
    Invariant s.darkStep := by
  obtain ⟨hf, hp⟩ := h.dark hst
  rw [State.darkStep, hw]
  exact invariant_of_dark hst { h.normalizedState (by rw [hst]; rfl) with } hf hp
    (by simpa [LinesInv, hst] using h.lines)

/-- The completion of the dark wait: a dark frame has no pass to make (R153, R161). -/
theorem Invariant.completeDark {s : State} (h : Invariant s) (hst : s.st = .dark) : Invariant s.completeDark := by
  obtain ⟨hf, hp⟩ := h.dark hst
  have hn : s.Normalized := h.normalizedState (by rw [hst]; rfl)
  refine invariant_of_done rfl { hn with } ?_ rfl (by simpa [LinesInv, hst] using h.lines)
  calc s.pass = 0 := hp
    _ = normPcnt s.frame s.total s.minp := by rw [hf, normPcnt_zero]
    _ = s.pcnt := hn.pcnt.symm

/-- S_ROW_EN: from no line asserted to exactly row `ROW` (R154). -/
theorem Invariant.rowEnStep {s : State} (h : Invariant s) (hst : s.st = .rowEn) (hw : s.wpend = false) :
    Invariant s.rowEnStep := by
  have hp : s.InPass := h.inPass (by rw [hst]; rfl)
  have hl : s.rowl = 0 ∧ s.coll = 0 := by simpa [LinesInv, hst] using h.lines
  rw [State.rowEnStep, State.whenFree_of_free hw]
  refine invariant_issueLine h hp.doneFlag (invariant_of_scanning rfl { hp.driven _ with } (by simp [hw]) ?_)
  simp [LinesInv, State.drive, hl]

/-- Past a column, with the column lines off, the row goes on or is at its end (R155, R159). -/
theorem State.InPass.nextColumn {s : State} (hp : s.InPass) (hw : s.wpend = false) (hr : s.rowl = lineBit s.row)
    (hc : s.coll = 0) : Invariant s.nextColumn := by
  unfold State.nextColumn
  split
  · exact invariant_of_scanning rfl { hp with } (by simp [hw]) ⟨hr, hc⟩
  · exact invariant_of_scanning rfl { hp with } (by simp [hw]) ⟨hr, hc⟩

/-- An unlit cell is passed as a column is (R155). -/
theorem State.cellStep_cases {s : State} (hst : s.st = .cell) (hw : s.wpend = false) :
    (cellLit s.frame s.row s.col = true ∧ s.cellStep = { s with st := .colOn }) ∨
    (cellLit s.frame s.row s.col = false ∧ s.cellStep = s.nextColumn) := by
  rw [State.cellStep, State.whenFree_of_free hw]
  cases cellLit s.frame s.row s.col <;> simp [State.nextColumn, ← hst]

/-- S_CELL (R155). -/
theorem Invariant.cellStep {s : State} (h : Invariant s) (hst : s.st = .cell) (hw : s.wpend = false) :
    Invariant s.cellStep := by
  have hp : s.InPass := h.inPass (by rw [hst]; rfl)
  obtain ⟨hr, hc⟩ : s.rowl = lineBit s.row ∧ s.coll = 0 := by simpa [LinesInv, hst] using h.lines
  rcases State.cellStep_cases hst hw with ⟨hlit, heq⟩ | ⟨-, heq⟩ <;> rw [heq]
  · exact invariant_of_scanning rfl { hp with } (by simp [hw]) ⟨hr, hc, hlit⟩
  · exact hp.nextColumn hw hr hc

/-- S_COL_ON: to exactly column `COL`, on a lit cell (R156). -/
theorem Invariant.colOnStep {s : State} (h : Invariant s) (hst : s.st = .colOn) (hw : s.wpend = false) :
    Invariant s.colOnStep := by
  have hp : s.InPass := h.inPass (by rw [hst]; rfl)
  obtain ⟨hr, hc, hlit⟩ : s.rowl = lineBit s.row ∧ s.coll = 0 ∧ cellLit s.frame s.row s.col = true := by
    simpa [LinesInv, hst] using h.lines
  rw [State.colOnStep, State.whenFree_of_free hw]
  refine invariant_issueLine h hp.doneFlag (invariant_of_scanning rfl { hp.driven _ with } (fun _ => rfl) ?_)
  simp [LinesInv, State.drive, hr, hc, hlit]

/-- S_PULSE issues its wait (R157). -/
theorem Invariant.pulseStep {s : State} (h : Invariant s) (hst : s.st = .pulse) (hw : s.wpend = false) :
    Invariant s.pulseStep := by
  rw [State.pulseStep, hw]
  exact invariant_of_scanning (by simp [hst, scanning]) { h.inPass (by rw [hst]; rfl) with } (fun _ => hst)
    (by simpa [LinesInv, hst] using h.lines)

/-- The completion of the pulse wait (R158). -/
theorem Invariant.completePulse {s : State} (h : Invariant s) (hst : s.st = .pulse) : Invariant s.completePulse :=
  invariant_of_scanning rfl { h.inPass (by rw [hst]; rfl) with } (by simp) (by simpa [LinesInv, hst] using h.lines)

/-- S_COL_OFF: to no column asserted (R159). -/
theorem Invariant.colOffStep {s : State} (h : Invariant s) (hst : s.st = .colOff) (hw : s.wpend = false) :
    Invariant s.colOffStep := by
  have hp : s.InPass := h.inPass (by rw [hst]; rfl)
  obtain ⟨hr, hc, -⟩ : s.rowl = lineBit s.row ∧ s.coll = lineBit s.col ∧ cellLit s.frame s.row s.col = true := by
    simpa [LinesInv, hst] using h.lines
  rw [State.colOffStep, State.whenFree_of_free hw]
  exact invariant_issueLine h hp.doneFlag
    ((hp.driven _).nextColumn (by simp [hw]) (by simp [State.drive, hr]) (by simp [State.drive, hc]))

/-- The pass counter stays below 2^32 as long as a pass is still to be made (R35, R160). -/
theorem State.InPass.toNat_passSucc {s : State} (h : s.InPass) : (passSucc s.pass).toNat = s.pass.toNat + 1 := by
  have hp := h.pass
  have hpc := s.pcnt.isLt
  rw [passSucc_of_lt (by omega), BitVec.toNat_add_of_lt (by simp; omega)]
  rfl

/-- Past a row, with all lines off, the pass goes on, is followed by another, or was the last (R160, R161). -/
theorem State.InPass.nextRow {s : State} (hp : s.InPass) (hw : s.wpend = false) (hr : s.rowl = 0) (hc : s.coll = 0) :
    Invariant s.nextRow := by
  have hsucc := hp.toNat_passSucc
  have hlt := hp.pass
  unfold State.nextRow
  split
  · split
    next hlast =>
      exact invariant_of_done rfl { hp with } (BitVec.eq_of_toNat_eq (hsucc.trans hlast)) hw ⟨hr, hc⟩
    next hmore =>
      exact invariant_of_scanning rfl { hp with pass := by simp only [hsucc]; omega } (by simp [hw]) ⟨hr, hc⟩
  · exact invariant_of_scanning rfl { hp with } (by simp [hw]) ⟨hr, hc⟩

/-- S_ROW_DIS: to no line asserted (R160). -/
theorem Invariant.rowDisStep {s : State} (h : Invariant s) (hst : s.st = .rowDis) (hw : s.wpend = false) :
    Invariant s.rowDisStep := by
  have hp : s.InPass := h.inPass (by rw [hst]; rfl)
  obtain ⟨hr, hc⟩ : s.rowl = lineBit s.row ∧ s.coll = 0 := by simpa [LinesInv, hst] using h.lines
  rw [State.rowDisStep, State.whenFree_of_free hw]
  exact invariant_issueLine h hp.doneFlag
    ((hp.driven _).nextRow (by simp [hw]) (by simp [State.drive, hr]) (by simp [State.drive, hc]))

/-- The index of the next frame lies in the sequence (R32, R184). -/
theorem toNat_fpNext_lt {fp len : BitVec 16} (h : fp.toNat < len.toNat) : (fpNext fp len).toNat < len.toNat := by
  have hlen := len.isLt
  unfold fpNext
  split
  · simp; omega
  · rw [fpSucc_of_lt (by omega), BitVec.toNat_add_of_lt (by simp; omega)]
    simp
    omega

/-- S_DONE: the return of a one-shot render, or the advance of a PLAY (R161, R184). -/
theorem Invariant.doneStep {s : State} (h : Invariant s) (hst : s.st = .done) (hw : s.wpend = false) :
    Invariant s.doneStep := by
  have hu : s.Underway := h.underway (s.busy_iff.mpr (by simp [hst]))
  obtain ⟨hr, hc⟩ : s.rowl = 0 ∧ s.coll = 0 := by simpa [LinesInv, hst] using h.lines
  rw [State.doneStep, State.whenFree_of_free hw]
  cases hmode : s.mode with
  | oneShot => exact invariant_of_idle rfl hu.memory hw hu.cause hu.info hr hc
  | play =>
    obtain ⟨hfps, hrange, hfp⟩ := hu.sequence hmode
    exact invariant_of_fetch rfl { hu with sequence := fun _ => ⟨hfps, hrange, toNat_fpNext_lt hfp⟩ } hmode hw ⟨hr, hc⟩

/-! ### The turns of the agents -/

/-- The completion of a pending wait, which is in S_DARK or S_PULSE (R41, R119). -/
theorem Invariant.completeWait {s : State} (h : Invariant s) (hw : s.wpend = true) : Invariant s.completeWait := by
  rcases s.completeWait_cases with ⟨hst, heq⟩ | ⟨hst, heq⟩ | ⟨hd, hp, -⟩
  · rw [heq]
    exact h.completeDark hst
  · rw [heq]
    exact h.completePulse hst
  · exact absurd (h.wait hw) (by simp [hd, hp])

/-- The enabled step of a render (R150). -/
theorem Invariant.renderStep {s : State} (h : Invariant s) : Invariant s.renderStep := by
  unfold State.renderStep
  cases hw : s.wpend with
  | true => exact h.completeWait hw
  | false =>
    cases hst : s.st with
    | idle | fetch | done | fault => exact h
    | norm => exact h.normStep hst hw
    | dark => exact h.darkStep hst hw
    | rowEn => exact h.rowEnStep hst hw
    | cell => exact h.cellStep hst hw
    | colOn => exact h.colOnStep hst hw
    | pulse => exact h.pulseStep hst hw
    | colOff => exact h.colOffStep hst hw
    | rowDis => exact h.rowDisStep hst hw

/-- The block's turn (R150). -/
theorem Invariant.of_blockTurn {s t : State} (h : Invariant s) (ht : blockTurn s = .next t) : Invariant t := by
  rcases blockTurn_cases s with ⟨-, heq⟩ | ⟨hw, ⟨hst, heq⟩ | ⟨hst, heq⟩ | ⟨-, -, heq⟩⟩ <;> rw [heq] at ht
  · cases ht
    exact h
  · rcases execSFetch_cases s with ⟨hp, -⟩ | ⟨-, -, w, -, hf⟩ | ⟨-, -, hf⟩
    · simp [hw] at hp
    · cases hf.symm.trans ht
      exact h.fetched hst hw w
    · cases hf.symm.trans ht
  · cases ht
    exact h.doneStep hst hw
  · cases ht
    exact h.renderStep

/-- The delay source's turn (R119). -/
theorem Invariant.of_delayTurn {s t : State} (h : Invariant s) (ht : delayTurn s = .next t) : Invariant t := by
  rcases delayTurn_cases s with ⟨hw, heq⟩ | ⟨-, heq⟩ <;> cases heq.symm.trans ht
  · exact h.completeWait hw
  · exact h

/-- In S_IDLE no fault is recorded and no wait is pending, and the lines are off (R41, R42, R166). -/
theorem Invariant.idle {s : State} (h : Invariant s) (hst : s.st = .idle) :
    s.wpend = false ∧ s.fcause = .none ∧ s.finfo = 0 ∧ s.rowl = 0 ∧ s.coll = 0 := by
  have hw : s.wpend = false := by simpa [hst] using h.wait
  have hc : s.fcause = .none := by simpa [hst] using h.cause
  have hi : s.finfo = 0 := by simpa [hc] using h.info
  have hl : s.rowl = 0 ∧ s.coll = 0 := by simpa [LinesInv, hst] using h.lines
  exact ⟨hw, hc, hi, hl⟩

/-- A command taken in S_IDLE starts with what its checks found, or enters the fault state (R200 to R203). -/
theorem Invariant.takeCommand {s : State} (h : Invariant s) (hst : s.st = .idle) (c : Cmd) :
    Invariant (s.takeCommand c) := by
  obtain ⟨hw, hc, hi, hr, hl⟩ := h.idle hst
  rcases s.takeCommand_cases c with heq | ⟨f, hf, -, heq⟩ | ⟨hm, heq⟩ | ⟨hm, hfps, hlen, hrange, heq⟩ <;> rw [heq]
  · exact h
  · exact invariant_enterFault h.memory rfl h.lines hf (.inl rfl)
  · exact invariant_of_norm rfl ⟨h.memory, hc, hi, rfl, hm, fun hmode => by cases hmode⟩ hw ⟨hr, hl⟩
  · have hpos : 0 < s.len.toNat := Nat.pos_of_ne_zero fun hz => hlen (BitVec.eq_of_toNat_eq hz)
    exact invariant_of_fetch rfl ⟨h.memory, hc, hi, rfl, hm, fun _ => ⟨hfps, hrange, hpos⟩⟩ rfl hw ⟨hr, hl⟩

/-- A parameter written in S_IDLE is one that nothing rests on yet (R198). -/
theorem Invariant.parameterWritten {s : State} (h : Invariant s) (hst : s.st = .idle) (idx : CsrIdx) (d : Word) :
    Invariant (parameterWrite idx d s) := by
  obtain ⟨hw, hc, hi, hr, hl⟩ := h.idle hst
  rcases parameterWrite_cases idx d s with heq | heq | heq | heq | heq | heq | heq <;> rw [heq] <;>
    exact invariant_of_idle hst h.memory hw hc hi hr hl

/-- A host write, discarded or taken (R197). -/
theorem Invariant.hostWrite {s : State} (h : Invariant s) (idx : CsrIdx) (d : Word) :
    Invariant (s.whenIdle (State.takeWrite idx d)) := by
  rcases s.whenIdle_cases (State.takeWrite idx d) with ⟨-, heq⟩ | ⟨hst, heq⟩ <;> rw [heq]
  · exact h
  · unfold State.takeWrite
    split
    · exact h.takeCommand hst _
    · exact h.parameterWritten hst idx d

/-- The host's turn (R196, R197). -/
theorem Invariant.of_hostTurn {s t : State} (h : Invariant s) {w : AccessWord}
    (ht : exec (decodeAccess w) s = .next t) : Invariant t := by
  rcases hostTurn_cases w s with ⟨idx, heq⟩ | ⟨idx, d, heq⟩ <;> cases heq.symm.trans ht
  · exact h.of_sameRegisters rfl
  · exact h.hostWrite idx d

/-- Every state whose registers are at their reset values, over any canonical store (R49, R240). -/
theorem invariant_resetBlock {s : State} (hm : s.mem.wf = true) : Invariant s.resetBlock :=
  invariant_of_idle rfl hm rfl rfl rfl rfl rfl

/-- One turn of any agent (R10). -/
theorem Invariant.of_takeTurn {s t : State} (h : Invariant s) {u : Turn} (ht : takeTurn u s = .next t) :
    Invariant t := by
  cases u with
  | block => exact h.of_blockTurn ht
  | delay => exact h.of_delayTurn ht
  | host w => exact h.of_hostTurn ht
  | reset =>
    cases ht
    exact invariant_resetBlock h.memory

end Sys2Proof.Machine

section
open Sys2Proof Sys2Proof.Machine

/-- Settles O55: the reset values are those of S_IDLE with all lines off. -/
theorem resetMeetsTheInvariant : Obligations.ResetMeetsTheInvariant :=
  invariant_resetBlock (s := State.reset) reset_memory_wf

/-- Settles O56: taking the turn off the list touches no register, and the turn of each agent keeps the invariant. -/
theorem everyStepKeepsTheInvariant : Obligations.EveryStepKeepsTheInvariant := by
  intro s t h hs
  exact (h.of_sameRegisters (t := s.turnTaken) rfl).of_takeTurn hs

end

/-! PROOF. What the host and the drive lines see: the CSR values (O41 to O43), the pins (O17), and both after reset (O9,
O10). -/

namespace Sys2Proof.Machine

/-! ### The words of the CSRs -/

/-- A concatenation as a number: the first part above the bits of the second. -/
theorem toNat_append_eq_add {m n : Nat} (x : BitVec m) (y : BitVec n) : (x ++ y).toNat = x.toNat * 2 ^ n + y.toNat := by
  rw [BitVec.toNat_append, ← Nat.shiftLeft_add_eq_or_of_lt y.isLt, Nat.shiftLeft_eq]

/-- A read answers with the value of its CSR (R196). -/
theorem exec_csrRd (x : CsrIdx) (s : State) : exec (.csrRd x) s = .next { s with csrRdata := csrValue x s } := rfl

/-- `LINES` from its number: `ROWL` in bits 3:0, `COLL` in bits 7:4 (R43). -/
theorem linesWord_eq (s : State) : linesWord s = BitVec.ofNat 32 (s.rowl.toNat + 16 * s.coll.toNat) := by
  apply BitVec.eq_of_toNat_eq
  rw [linesWord, BitVec.toNat_setWidth, BitVec.toNat_ofNat, toNat_append_eq_add]
  congr 1
  omega

/-- The low word of `PDUR` (R43). -/
theorem extractLsb'_low (d : BitVec 36) : d.extractLsb' 0 32 = BitVec.ofNat 32 (d.toNat % 2 ^ 32) := by
  apply BitVec.eq_of_toNat_eq
  simp

/-- The high word of `PDUR` (R43). -/
theorem extractLsb'_high (d : BitVec 36) : (d.extractLsb' 32 4).setWidth 32 = BitVec.ofNat 32 (d.toNat / 2 ^ 32) := by
  apply BitVec.eq_of_toNat_eq
  simp [Nat.shiftRight_eq_div_pow]
  omega

/-- CSR 8 as a number: `FCAUSE` in bits 2:0, `FINFO` in bits 12:8 (R42). -/
theorem toNat_faultWord (s : State) : (faultWord s).toNat = 256 * s.finfo.toNat + (causeCode s.fcause).toNat := by
  have hf := s.finfo.isLt
  have hc := (causeCode s.fcause).isLt
  rw [faultWord, BitVec.toNat_setWidth, toNat_append_eq_add, toNat_append_eq_add]
  simp
  omega

/-- The flags of `STATUS` (R45). -/
theorem getLsbD_statusWord (s : State) :
    (statusWord s).getLsbD 0 = s.busy ∧ (statusWord s).getLsbD 1 = s.done ∧
    (statusWord s).getLsbD 2 = s.faulted ∧ (statusWord s).getLsbD 3 = s.wpend ∧
    (statusWord s).getLsbD 12 = (modeBit s.mode).getLsbD 0 := by
  simp only [statusWord, BitVec.getLsbD_setWidth, BitVec.getLsbD_append, -Nat.reduceAdd]
  simp

/-- The fields of `STATUS` wider than a bit (R45). -/
theorem extractLsb'_statusWord (s : State) :
    (statusWord s).extractLsb' 4 4 = stCode s.st ∧ (statusWord s).extractLsb' 8 2 = s.row ∧
    (statusWord s).extractLsb' 10 2 = s.col := by
  simp (disch := decide) only [statusWord, BitVec.extractLsb'_setWidth_of_le, BitVec.extractLsb'_append_eq_of_le,
    -Nat.reduceAdd]
  exact ⟨BitVec.extractLsb'_append_eq_right, BitVec.extractLsb'_append_eq_right, BitVec.extractLsb'_append_eq_right⟩

/-- `STATUS` has nothing above bit 12 (R45). -/
theorem getLsbD_statusWord_of_ge (s : State) {i : Nat} (hi : 13 ≤ i) : (statusWord s).getLsbD i = false := by
  rw [statusWord, BitVec.getLsbD_setWidth, BitVec.getLsbD_of_ge _ _ hi, Bool.and_false]

/-- A write to index 1 is discarded, or stores nothing (R45, R199). -/
theorem exec_csrWr_status (d : Word) (s : State) : exec (.csrWr 1 d) s = .next s :=
  congrArg Host.Outcome.next (ite_self s)

/-! ### The pins -/

/-- A line pin other than that of a recorded HardwareFault follows the commanded state (R120, R216). -/
theorem State.rowPin_of_ok {s : State} {i : LineIdx} (h : s.pinFailed false i = false) :
    s.rowPin i = !s.rowl.getLsbD i.toNat := by
  simp [State.rowPin, h]

theorem State.colPin_of_ok {s : State} {i : LineIdx} (h : s.pinFailed true i = false) :
    s.colPin i = s.coll.getLsbD i.toNat := by
  simp [State.colPin, h]

/-- Without a HardwareFault no pin has failed (R216). -/
theorem State.pinFailed_of_cause {s : State} (h : s.fcause ≠ .hardwareFault) (column : Bool) (i : LineIdx) :
    s.pinFailed column i = false := by
  simp [State.pinFailed, h]

/-- A line operation's code is told by its bank, bit 3, and its index, bits 1:0, up to whether it sets or clears the
line (R88, R89). -/
theorem uopCode_of_bank (code : UopCode) (h : code.toNat < 16) :
    (code.getLsbD 3 = false →
      code = (code.extractLsb' 0 2).setWidth 5 ∨ code = 4#5 + (code.extractLsb' 0 2).setWidth 5) ∧
    (code.getLsbD 3 = true →
      code = 8#5 + (code.extractLsb' 0 2).setWidth 5 ∨ code = 12#5 + (code.extractLsb' 0 2).setWidth 5) := by
  revert code
  decide

/-- A pin has failed only if `FINFO` is one of the two operations on its line (R216). -/
theorem State.finfo_of_pinFailed {s : State} {column : Bool} {i : LineIdx} (h : s.pinFailed column i = true)
    (hlt : s.finfo.toNat < 16) :
    (column = false → s.finfo = i.setWidth 5 ∨ s.finfo = 4#5 + i.setWidth 5) ∧
    (column = true → s.finfo = 8#5 + i.setWidth 5 ∨ s.finfo = 12#5 + i.setWidth 5) := by
  simp only [State.pinFailed, Bool.and_eq_true, beq_iff_eq] at h
  obtain ⟨⟨-, rfl⟩, rfl⟩ := h
  exact uopCode_of_bank s.finfo hlt

/-- `dly_val` shows the budget during the dark wait (R120). -/
theorem State.dlyVal_dark {s : State} (hw : s.wpend = true) (hst : s.st = .dark) : s.dlyVal = s.total := by
  simp [State.dlyVal, hw, hst]

/-- `dly_val` shows the pulse width during the pulse wait (R120). -/
theorem State.dlyVal_pulse {s : State} (hw : s.wpend = true) (hst : s.st = .pulse) : s.dlyVal = s.minp := by
  simp [State.dlyVal, hw, hst]

/-- A canonical store has no address above 16 bits (R7). -/
theorem Memory.depth_le_of_wf {m : Memory} (h : m.wf = true) : m.depth ≤ 65536 := by
  simp only [Memory.wf, Bool.and_eq_true, decide_eq_true_eq] at h
  obtain ⟨⟨⟨-, hdepth⟩, -⟩, -⟩ := h
  exact hdepth

/-- In a fetch inside a canonical store `pat_addr` is the address of the fetch, uncut (R62). -/
theorem State.toNat_patAddr {s : State} (hm : s.mem.wf = true) (hst : s.st = .fetch)
    (ha : s.fetchAddr < s.mem.depth) : s.patAddr.toNat = s.fetchAddr := by
  have hd := Memory.depth_le_of_wf hm
  rw [State.patAddr, if_pos hst, BitVec.toNat_ofNat, Nat.mod_eq_of_lt (by omega)]

/-- A fetch inside the store takes its word into `FRAME` (R181). -/
theorem exec_sFetch_of_lt {s : State} (hw : s.wpend = false) (ha : s.fetchAddr < s.mem.depth) :
    ∃ w, memRead s.mem s.fetchAddr = some w ∧ exec .sFetch s = .next (s.fetched w) := by
  rcases execSFetch_cases s with ⟨h, -⟩ | ⟨-, -, hf⟩ | ⟨-, h, -⟩
  · simp [hw] at h
  · exact hf
  · omega

/-! ### Reset -/

/-- Every CSR reads 0 after reset (R49). -/
theorem csrValue_reset : ∀ x : CsrIdx, csrValue x State.reset = 0 := by
  decide

end Sys2Proof.Machine

section
open Sys2Proof Sys2Proof.Machine

/-- Settles O9: with no fault recorded the pins follow the commanded lines, which are off. -/
theorem resetValues : Obligations.ResetValues := by
  have hf : State.reset.fcause ≠ .hardwareFault := by decide
  refine ⟨rfl, rfl, rfl, rfl, rfl, rfl, rfl, rfl, rfl, rfl, rfl, rfl, rfl, rfl, rfl, rfl, rfl, rfl, rfl, rfl, rfl,
    fun i => ⟨?_, ?_⟩, csrValue_reset⟩
  · rw [State.rowPin_of_ok (State.pinFailed_of_cause hf _ i)]
    simp [State.reset]
  · rw [State.colPin_of_ok (State.pinFailed_of_cause hf _ i)]
    simp [State.reset]

/-- Settles O10: the turn at the head of the list is reset, whatever the state. -/
theorem resetTurnResets : Obligations.ResetTurnResets := by
  intro s rest ht
  rw [step_of_turns ht, takeTurn, State.resetBlock]

/-- Settles O17: a pin that does not follow its line has failed, and then `FINFO` is an operation on that line. -/
theorem pinsFollowTheCommandedState : Obligations.PinsFollowTheCommandedState := by
  intro s i
  refine ⟨fun hc => ⟨?_, ?_⟩, fun hde has hlt => ?_, fun hde has hlt => ?_, rfl, rfl, State.dlyVal_dark,
    State.dlyVal_pulse, fun hm hst ha => ?_⟩
  · exact State.rowPin_of_ok (State.pinFailed_of_cause hc false i)
  · exact State.colPin_of_ok (State.pinFailed_of_cause hc true i)
  · exact State.rowPin_of_ok (Bool.eq_false_iff.mpr fun hf => ((State.finfo_of_pinFailed hf hlt).1 rfl).elim hde has)
  · exact State.colPin_of_ok (Bool.eq_false_iff.mpr fun hf => ((State.finfo_of_pinFailed hf hlt).2 rfl).elim hde has)
  have haddr : s.patAddr.toNat = s.fetchAddr := State.toNat_patAddr hm hst ha
  have hdata : s.patData = memRead s.mem s.fetchAddr := by rw [State.patData, haddr]
  refine ⟨haddr, hdata, fun hw => ?_⟩
  obtain ⟨w, hread, hexec⟩ := exec_sFetch_of_lt hw ha
  exact ⟨w, s.fetched w, hdata.trans hread, hexec, rfl⟩

/-- Settles O41: a read answers with `csrValue`; its words of more than one register are compared as numbers. -/
theorem csrReadTable : Obligations.CsrReadTable := by
  intro s
  refine ⟨fun x => ⟨csrValue x s, exec_csrRd x s⟩, rfl, rfl, rfl, rfl, rfl, rfl, rfl, rfl, ?_, rfl, ?_, ?_, rfl, rfl⟩
  · rw [exec_csrRd, ← linesWord_eq]
    rfl
  · rw [exec_csrRd, ← extractLsb'_low]
    rfl
  · rw [exec_csrRd, ← extractLsb'_high]
    rfl

/-- Settles O43: CSR 8 as a number, cause by cause. -/
theorem faultRecordBits : Obligations.FaultRecordBits := by
  intro s
  refine ⟨faultWord s, exec_csrRd 8 s, ?_⟩
  rw [toNat_faultWord]
  cases s.fcause <;> rfl

/-- Settles O42: the flags and the fields of `STATUS`, cut out of its word. -/
theorem statusBits : Obligations.StatusBits := by
  intro s
  obtain ⟨hbusy, hdone, hfault, hwait, hmode⟩ := getLsbD_statusWord s
  obtain ⟨hst, hrow, hcol⟩ := extractLsb'_statusWord s
  refine ⟨statusWord s, exec_csrRd 1 s, ?_, hdone, ?_, hwait, hst, hrow, hcol, ?_,
    fun i hi => getLsbD_statusWord_of_ge s hi, fun d => exec_csrWr_status d s⟩
  · rw [hbusy]
    simp [State.busy]
  · rw [hfault]
    simp [State.faulted]
  · rw [hmode]
    cases s.mode <;> decide

end

/-! PROOF. The pattern store: `MemRead` (O32), the fetch (O31), and that nothing writes the store (O52) and no fetch
leaves it (O57). -/

namespace Sys2Proof.Machine

/-! ### The listed words of a canonical store -/

/-- The addresses of a rising list start where it says (log 2). -/
theorem le_of_mem_rising {low : Nat} {cs : List (Nat × FrameWord)} (h : rising low cs = true)
    {c : Nat × FrameWord} (hc : c ∈ cs) : low ≤ c.1 := by
  induction cs generalizing low with
  | nil => simp at hc
  | cons d ds ih =>
    simp only [rising, Bool.and_eq_true, decide_eq_true_eq] at h
    obtain ⟨hlow, hrest⟩ := h
    rcases List.mem_cons.mp hc with rfl | hc
    · exact hlow
    · have hd := ih hrest hc
      omega

/-- In a rising list the address of a listed word is listed only once, so the word is found there (log 2). -/
theorem listedWord_of_mem {low : Nat} {cs : List (Nat × FrameWord)} (h : rising low cs = true) {a : Nat}
    {w : FrameWord} (ha : (a, w) ∈ cs) : listedWord cs a = some w := by
  induction cs generalizing low with
  | nil => simp at ha
  | cons d ds ih =>
    simp only [rising, Bool.and_eq_true] at h
    obtain ⟨-, hrest⟩ := h
    rcases List.mem_cons.mp ha with rfl | ha
    · simp [listedWord]
    · have hlt : d.1 + 1 ≤ a := le_of_mem_rising hrest ha
      rw [listedWord, if_neg (by omega), ih hrest ha]

/-- A word that is found is listed at its address. -/
theorem mem_of_listedWord {cs : List (Nat × FrameWord)} {a : Nat} {w : FrameWord} (h : listedWord cs a = some w) :
    (a, w) ∈ cs := by
  induction cs with
  | nil => simp [listedWord] at h
  | cons d ds ih =>
    unfold listedWord at h
    split at h
    next heq =>
      cases heq
      cases h
      exact List.mem_cons_self
    next => exact List.mem_cons_of_mem _ (ih h)

/-- Where no word is listed, none is found. -/
theorem listedWord_of_unlisted {cs : List (Nat × FrameWord)} {a : Nat} (h : ∀ w, (a, w) ∉ cs) :
    listedWord cs a = none :=
  Option.eq_none_iff_forall_ne_some.mpr fun w hw => h w (mem_of_listedWord hw)

/-- The list of a canonical store rises and stays inside the store (R61; log 2). -/
theorem Memory.cells_of_wf {m : Memory} (h : m.wf = true) :
    rising 0 m.cells = true ∧ ∀ c ∈ m.cells, c.1 < m.depth := by
  simp only [Memory.wf, Bool.and_eq_true, List.all_eq_true, decide_eq_true_eq] at h
  obtain ⟨⟨-, hrising⟩, hcells⟩ := h
  exact ⟨hrising, fun c hc => (hcells c hc).1⟩

/-- `MemRead` of a listed address of a canonical store (R62). -/
theorem memRead_of_listed {m : Memory} (h : m.wf = true) {a : Nat} {w : FrameWord} (ha : (a, w) ∈ m.cells) :
    memRead m a = some w := by
  obtain ⟨hrising, hinside⟩ := Memory.cells_of_wf h
  rw [memRead_of_lt (hinside _ ha), listedWord_of_mem hrising ha, Option.getD_some]

/-- `MemRead` of an unlisted address of the store (R62; log 2). -/
theorem memRead_of_unlisted {m : Memory} {a : Nat} (ha : a < m.depth) (h : ∀ w, (a, w) ∉ m.cells) :
    memRead m a = some (Config.romWord a) := by
  rw [memRead_of_lt ha, listedWord_of_unlisted h, Option.getD_none]

/-! ### The fetch -/

/-- The budget of a frame at a rate that is not 0 fits its register (R133). -/
theorem toNat_budget {fps : Word} (h : fps ≠ 0) : (budget fps).toNat = 1000000 / fps.toNat := by
  have hle : usPerSecond / fps.toNat ≤ 1000000 := Nat.div_le_self _ _
  rw [budget, if_neg h, BitVec.toNat_ofNat, Nat.mod_eq_of_lt (by omega)]

/-- A fetch takes the word that the store holds at its address (R181). -/
theorem exec_sFetch_of_memRead {s : State} {w : FrameWord} (hw : s.wpend = false)
    (hr : memRead s.mem s.fetchAddr = some w) : exec .sFetch s = .next (s.fetched w) := by
  have ha : s.fetchAddr < s.mem.depth := (memRead_isSome_iff _ _).mp (by rw [hr]; rfl)
  obtain ⟨v, hv, hexec⟩ := exec_sFetch_of_lt hw ha
  cases hr.symm.trans hv
  exact hexec

/-- A fetch from outside the store stops the model (log 18). -/
theorem exec_sFetch_of_ge {s : State} (hw : s.wpend = false) (ha : s.mem.depth ≤ s.fetchAddr) :
    exec .sFetch s = .fault (.outsideStore s.fetchAddr) := by
  rcases execSFetch_cases s with ⟨h, -⟩ | ⟨-, h, -⟩ | ⟨-, -, hf⟩
  · simp [hw] at h
  · omega
  · exact hf

/-! ### What each operation leaves of the store: all of it (R63) -/

theorem State.whenFree_mem {body : State → State} {s : State} (h : (body s).mem = s.mem) :
    (s.whenFree body).mem = s.mem := by
  rcases s.whenFree_cases body with ⟨-, heq⟩ | ⟨-, heq⟩ <;> rw [heq]
  exact h

theorem State.whenIdle_mem {body : State → State} {s : State} (h : (body s).mem = s.mem) :
    (s.whenIdle body).mem = s.mem := by
  rcases s.whenIdle_cases body with ⟨-, heq⟩ | ⟨-, heq⟩ <;> rw [heq]
  exact h

theorem State.issueLine_mem (op : LineOp) {k : State → State} (hk : ∀ u, (k u).mem = u.mem) (s : State) :
    (s.issueLine op k).mem = s.mem := by
  rcases s.issueLine_cases op k with ⟨-, heq⟩ | ⟨-, heq⟩ <;> simp [heq, hk]

@[simp] theorem State.nextColumn_mem (s : State) : s.nextColumn.mem = s.mem := by
  unfold State.nextColumn
  split <;> rfl

@[simp] theorem State.nextRow_mem (s : State) : s.nextRow.mem = s.mem := by
  unfold State.nextRow
  split
  · split <;> rfl
  · rfl

@[simp] theorem State.completeWait_mem (s : State) : s.completeWait.mem = s.mem := by
  rcases s.completeWait_cases with ⟨-, heq⟩ | ⟨-, heq⟩ | ⟨-, -, heq⟩ <;> rw [heq] <;> rfl

/-! ### The steps of the block (R63) -/

@[simp] theorem State.normStep_mem (s : State) : s.normStep.mem = s.mem :=
  State.whenFree_mem s.normalize_mem

@[simp] theorem State.darkStep_mem (s : State) : s.darkStep.mem = s.mem := by
  unfold State.darkStep
  split <;> rfl

@[simp] theorem State.rowEnStep_mem (s : State) : s.rowEnStep.mem = s.mem := by
  refine State.whenFree_mem (State.issueLine_mem _ ?_ s)
  exact fun _ => rfl

@[simp] theorem State.cellStep_mem (s : State) : s.cellStep.mem = s.mem := by
  refine State.whenFree_mem ?_
  split
  · rfl
  · split <;> rfl

@[simp] theorem State.colOnStep_mem (s : State) : s.colOnStep.mem = s.mem := by
  refine State.whenFree_mem (State.issueLine_mem _ ?_ s)
  exact fun _ => rfl

@[simp] theorem State.pulseStep_mem (s : State) : s.pulseStep.mem = s.mem := by
  unfold State.pulseStep
  split <;> rfl

@[simp] theorem State.colOffStep_mem (s : State) : s.colOffStep.mem = s.mem :=
  State.whenFree_mem (State.issueLine_mem _ State.nextColumn_mem s)

@[simp] theorem State.rowDisStep_mem (s : State) : s.rowDisStep.mem = s.mem :=
  State.whenFree_mem (State.issueLine_mem _ State.nextRow_mem s)

@[simp] theorem State.doneStep_mem (s : State) : s.doneStep.mem = s.mem := by
  refine State.whenFree_mem ?_
  cases s.mode <;> rfl

/-- The enabled step of a render (R150). -/
@[simp] theorem State.renderStep_mem (s : State) : s.renderStep.mem = s.mem := by
  unfold State.renderStep
  cases s.wpend with
  | true => exact s.completeWait_mem
  | false => cases s.st <;> simp

/-- A whole render, which is its enabled steps (R182, R183). -/
@[simp] theorem State.runFrame_mem (f : FrameWord) (s : State) : (s.runFrame f).mem = s.mem :=
  State.renderSteps_induct (P := fun u => u.mem = s.mem) (fun u _ hu => u.renderStep_mem.trans hu) _ _ rfl

/-- S_FETCH reads the store and leaves it (R181). -/
theorem mem_of_execSFetch {s t : State} (h : execSFetch s = .next t) : t.mem = s.mem := by
  rcases execSFetch_cases s with ⟨-, heq⟩ | ⟨-, -, w, -, heq⟩ | ⟨-, -, heq⟩ <;> cases heq.symm.trans h <;> rfl

/-! ### The host's writes (R63) -/

@[simp] theorem State.takeCommand_mem (c : Cmd) (s : State) : (s.takeCommand c).mem = s.mem := by
  rcases s.takeCommand_cases c with heq | ⟨_, -, -, heq⟩ | ⟨-, heq⟩ | ⟨-, -, -, -, heq⟩ <;> simp [heq]

@[simp] theorem parameterWrite_mem (idx : CsrIdx) (d : Word) (s : State) : (parameterWrite idx d s).mem = s.mem := by
  rcases parameterWrite_cases idx d s with heq | heq | heq | heq | heq | heq | heq <;> rw [heq]

@[simp] theorem State.takeWrite_mem (idx : CsrIdx) (d : Word) (s : State) : (s.takeWrite idx d).mem = s.mem := by
  unfold State.takeWrite
  split <;> simp

/-! ### Every instruction and every turn (R63, R72) -/

/-- An instruction whose meaning is a next state with the store unchanged leaves it unchanged. -/
theorem mem_of_next {s t u : State} (h : (Host.Outcome.next u : Host.Outcome State Fault Refusal) = .next t)
    (hu : u.mem = s.mem) : t.mem = s.mem := by
  cases h
  exact hu

/-- No instruction writes the pattern store. -/
theorem exec_mem {i : Instr} {s t : State} (h : exec i s = .next t) : t.mem = s.mem := by
  cases i with
  | sFetch => exact mem_of_execSFetch h
  | frameDark | frameLit => exact mem_of_next h (State.runFrame_mem _ s)
  | csrRd | nop | sIdle | sFault => exact mem_of_next h rfl
  | waitUs | waitMs => exact mem_of_next h (State.issueWait_mem _ s)
  | csrWr idx d => exact mem_of_next h (State.whenIdle_mem (s.takeWrite_mem idx d))
  | render => exact mem_of_next h (State.whenIdle_mem (s.takeCommand_mem .render))
  | play => exact mem_of_next h (State.whenIdle_mem (s.takeCommand_mem .play))
  | cmdRsvd => exact mem_of_next h (State.whenIdle_mem (s.takeCommand_mem .rsvd))
  | rowDe | rowAs | colDe | colAs => exact mem_of_next h (State.issueLine_mem _ (fun _ => rfl) s)
  | sNorm => exact mem_of_next h s.normStep_mem
  | sDark => exact mem_of_next h s.darkStep_mem
  | sRowEn => exact mem_of_next h s.rowEnStep_mem
  | sCell => exact mem_of_next h s.cellStep_mem
  | sColOn => exact mem_of_next h s.colOnStep_mem
  | sPulse => exact mem_of_next h s.pulseStep_mem
  | sColOff => exact mem_of_next h s.colOffStep_mem
  | sRowDis => exact mem_of_next h s.rowDisStep_mem
  | sDone => exact mem_of_next h s.doneStep_mem

/-- No turn of any agent writes the pattern store. -/
theorem takeTurn_mem {u : Turn} {s t : State} (h : takeTurn u s = .next t) : t.mem = s.mem := by
  cases u with
  | block =>
    rw [takeTurn, blockTurn_eq] at h
    split at h
    · cases h
      rfl
    · exact exec_mem h
  | delay =>
    rcases delayTurn_cases s with ⟨-, heq⟩ | ⟨-, heq⟩ <;> cases heq.symm.trans h
    · exact s.completeWait_mem
    · rfl
  | host w => exact exec_mem h
  | reset =>
    cases h
    exact s.resetBlock_mem

/-! ### No turn stops the machine (R62, R150) -/

/-- Under the invariant only a PLAY fetches, and its sequence lies in the store with `FP` inside it: the address of the
fetch is one of the store (R32, R62). -/
theorem Invariant.fetchAddr_lt {s : State} (h : Invariant s) (hst : s.st = .fetch) : s.fetchAddr < s.mem.depth := by
  obtain ⟨-, hrange, hfp⟩ := h.sequence (s.busy_iff.mpr (by simp [hst])) (h.fetching hst)
  unfold State.fetchAddr
  omega

/-- The block's turn: only a fetch could stop, and its address is one of the store. -/
theorem Invariant.blockTurn_next {s : State} (h : Invariant s) : ∃ t, blockTurn s = .next t := by
  rcases blockTurn_cases s with ⟨-, heq⟩ | ⟨hw, ⟨hst, heq⟩ | ⟨-, heq⟩ | ⟨-, -, heq⟩⟩
  · exact ⟨_, heq⟩
  · obtain ⟨w, -, hexec⟩ := exec_sFetch_of_lt hw (h.fetchAddr_lt hst)
    exact ⟨s.fetched w, heq.trans hexec⟩
  · exact ⟨_, heq⟩
  · exact ⟨_, heq⟩

/-- One turn of any agent (R10). -/
theorem Invariant.takeTurn_next {s : State} (h : Invariant s) (u : Turn) : ∃ t, takeTurn u s = .next t := by
  cases u with
  | block => exact h.blockTurn_next
  | delay => rcases delayTurn_cases s with ⟨-, heq⟩ | ⟨-, heq⟩ <;> exact ⟨_, heq⟩
  | host w => rcases hostTurn_cases w s with ⟨_, heq⟩ | ⟨_, _, heq⟩ <;> exact ⟨_, heq⟩
  | reset => exact ⟨_, rfl⟩

end Sys2Proof.Machine

section
open Sys2Proof Sys2Proof.Machine

/-- Settles O31: the budget is `budget` of the rate, a floor quotient where the rate is not 0. -/
theorem fetchResult : Obligations.FetchResult := by
  intro s w hw hr
  exact ⟨budget s.fps, toNat_budget, exec_sFetch_of_memRead hw hr⟩

/-- Settles O32: what the list of a canonical store says of each address, and the bound that is its depth. -/
theorem fetchOutsideTheStoreStops : Obligations.FetchOutsideTheStoreStops := by
  intro s
  refine ⟨fun a w hm ha => memRead_of_listed hm ha, fun a ha h => memRead_of_unlisted ha h, fun a => ?_,
    fun hw ha => exec_sFetch_of_ge hw ha⟩
  rw [← memRead_isSome_iff, Option.isSome_iff_exists]

/-- Settles O52: the store is a field that no instruction and no turn writes, so every address reads as it did. -/
theorem patternStoreIsNeverWritten : Obligations.PatternStoreIsNeverWritten := by
  refine ⟨fun i s t h => ?_, fun s t h => ?_⟩
  · have hm : t.mem = s.mem := exec_mem h
    exact ⟨hm, fun a => by rw [hm]⟩
  · have hm : t.mem = s.mem := (takeTurn_mem h).trans s.turnTaken_mem
    exact ⟨hm, fun a => by rw [hm]⟩

/-- Settles O57: taking the turn off the list touches no register, and no agent's turn stops under the invariant. -/
theorem invariantNeverStops : Obligations.InvariantNeverStops := by
  intro s h
  exact (h.of_sameRegisters (t := s.turnTaken) rfl).takeTurn_next s.nextTurn

end

/-! PROOF. The decoders and the encoder agree (O1 to O6), and `FINFO` is the code of the operation that failed (O16). -/

namespace Sys2Proof

/-! ### Frame words, accesses and commands (R83, R85, R86) -/

/-- A frame word that is not dark is its own operand (R83). -/
theorem decodeFrame_of_ne {w : FrameWord} (h : w ≠ 0) : decodeFrame w = .frameLit w :=
  if_neg h

/-- An access word with `we` clear is a read, its data ignored (R85). -/
theorem decodeAccess_read (idx : CsrIdx) (data : Word) : decodeAccess (0#1 ++ idx ++ data) = .csrRd idx := by
  obtain ⟨hwe, hidx, -⟩ := accessWord_parts 0#1 idx data
  rw [decodeAccess, hwe, hidx]
  rfl

/-- An access word with `we` set is a write (R85). -/
theorem decodeAccess_write (idx : CsrIdx) (data : Word) : decodeAccess (1#1 ++ idx ++ data) = .csrWr idx data := by
  obtain ⟨hwe, hidx, hdata⟩ := accessWord_parts 1#1 idx data
  rw [decodeAccess, hwe, hidx, hdata]
  rfl

/-- The instruction of a command. -/
def cmdInstr : Cmd → Instr
  | .nop => .nop
  | .render => .render
  | .play => .play
  | .rsvd => .cmdRsvd

/-- The command decoder reads the instruction of `CMD` (R86). -/
theorem decodeCmd_eq (data : Word) : decodeCmd data = cmdInstr (cmdOf data) := by
  unfold decodeCmd
  cases cmdOf data <;> rfl

/-- `CMD` is bits 1:0 alone (R86). -/
theorem cmdOf_congr {a b : Word} (h : a.extractLsb' 0 2 = b.extractLsb' 0 2) : cmdOf a = cmdOf b := by
  have bit : ∀ i, i < 2 → a.getLsbD i = b.getLsbD i := fun i hi => by
    simpa [BitVec.getLsbD_extractLsb', hi] using congrArg (·.getLsbD i) h
  rw [cmdOf, cmdOf, bit 0 (by decide), bit 1 (by decide)]

/-! ### Micro-operations (R88 to R92) -/

/-- The instruction of a line operation. -/
def lineInstr : LineOp → Instr
  | .rowDe i => .rowDe i
  | .rowAs i => .rowAs i
  | .colDe i => .colDe i
  | .colAs i => .colAs i

/-- The line a line operation is about. -/
def lineIdx : LineOp → LineIdx
  | .rowDe i => i
  | .rowAs i => i
  | .colDe i => i
  | .colAs i => i

/-- The `bank` of a line operation: whether its line is a column (R89). -/
def lineBank : LineOp → Bool
  | .rowDe _ => false
  | .rowAs _ => false
  | .colDe _ => true
  | .colAs _ => true

/-- The `set` of a line operation: whether it asserts its line (R89). -/
def lineSet : LineOp → Bool
  | .rowDe _ => false
  | .rowAs _ => true
  | .colDe _ => false
  | .colAs _ => true

/-- The parts of a line operation's code: `class`, `bank`, `set`, `idx` (R88, R89). -/
theorem lineCode_parts (op : LineOp) :
    (lineCode op).getLsbD 4 = false ∧ (lineCode op).getLsbD 3 = lineBank op ∧ (lineCode op).getLsbD 2 = lineSet op ∧
    (lineCode op).extractLsb' 0 2 = lineIdx op := by
  cases op with
  | rowDe i | rowAs i | colDe i | colAs i =>
    revert i
    decide

/-- A line operation is read back from its code, whatever the argument (R88, R89). -/
theorem decodeUop_lineCode (op : LineOp) (arg : Word) : decodeUop (lineCode op) arg = .ok (lineInstr op) := by
  obtain ⟨hclass, hbank, hset, hidx⟩ := lineCode_parts op
  rw [decodeUop, hclass, hbank, hset, hidx]
  cases op <;> rfl

/-- Every code of `class` 0 is the code of a line operation (R89). -/
theorem exists_lineCode {code : UopCode} (h : code.getLsbD 4 = false) : ∃ op, code = lineCode op := by
  have key : ∀ c : UopCode, c.getLsbD 4 = false →
      let i := c.extractLsb' 0 2
      ∃ op ∈ [LineOp.rowDe i, .rowAs i, .colDe i, .colAs i], c = lineCode op := by decide
  obtain ⟨op, -, hop⟩ := key code h
  exact ⟨op, hop⟩

/-- The codes of `class` 1 but for the two waits are those of R92. -/
theorem reserved_of_class_one : ∀ code : UopCode, code.getLsbD 4 = true → code ≠ 0x10#5 → code ≠ 0x18#5 →
    (0x11 ≤ code.toNat ∧ code.toNat ≤ 0x17) ∨ 0x19 ≤ code.toNat := by
  decide

/-- What the micro-operation decoder can answer: a line operation, WAIT.US, WAIT.MS or its argument's rejection, or
the rejection of a code of R92. -/
theorem decodeUop_cases (code : UopCode) (arg : Word) :
    (∃ op, code = lineCode op ∧ decodeUop code arg = .ok (lineInstr op)) ∨
    (code = 0x10#5 ∧ decodeUop code arg = .ok (.waitUs arg)) ∨
    (code = 0x18#5 ∧ arg.extractLsb' 16 16 = 0 ∧ decodeUop code arg = .ok (.waitMs (arg.extractLsb' 0 16))) ∨
    (code = 0x18#5 ∧ arg.extractLsb' 16 16 ≠ 0 ∧ decodeUop code arg = .error (.wideMillis arg)) ∨
    (((0x11 ≤ code.toNat ∧ code.toNat ≤ 0x17) ∨ 0x19 ≤ code.toNat) ∧
      decodeUop code arg = .error (.reservedUop code)) := by
  cases hclass : code.getLsbD 4 with
  | false =>
    obtain ⟨op, rfl⟩ := exists_lineCode hclass
    exact .inl ⟨op, rfl, decodeUop_lineCode op arg⟩
  | true =>
    have hdelay : decodeUop code arg = decodeDelay code arg := by simp only [decodeUop, hclass]
    rw [hdelay, decodeDelay]
    split_ifs with hus hms hwide
    · exact .inr (.inl ⟨hus, rfl⟩)
    · exact .inr (.inr (.inl ⟨hms, hwide, rfl⟩))
    · exact .inr (.inr (.inr (.inl ⟨hms, hwide, rfl⟩)))
    · exact .inr (.inr (.inr (.inr ⟨reserved_of_class_one code hclass hus hms, rfl⟩)))

/-- WAIT.US takes its argument whole (R91). -/
theorem decodeUop_waitUs (micros : Word) : decodeUop 0x10#5 micros = .ok (.waitUs micros) := rfl

/-- WAIT.MS takes a zero-extended argument (R91). -/
theorem decodeUop_waitMs (millis : BitVec 16) : decodeUop 0x18#5 (0#16 ++ millis) = .ok (.waitMs millis) := by
  have hhigh : (0#16 ++ millis : Word).extractLsb' 16 16 = 0 := BitVec.extractLsb'_append_eq_left
  have hlow : (0#16 ++ millis : Word).extractLsb' 0 16 = millis := BitVec.extractLsb'_append_eq_right
  have hdelay : decodeUop 0x18#5 (0#16 ++ millis) = decodeDelay 0x18#5 (0#16 ++ millis) := rfl
  simp [hdelay, decodeDelay, hhigh, hlow]

/-! ### Steps (R93, R162) -/

/-- A step code is the code of a state of the FSM, or one of 11 to 14 and rejected (R33, R162). -/
theorem decodeStep_cases (code : BitVec 4) :
    (∃ st, code = stCode st) ∨
    (11 ≤ code.toNat ∧ code.toNat ≤ 14 ∧ decodeStep code = .error (.reservedStep code)) := by
  have key : ∀ c : BitVec 4,
      (∃ st ∈ [St.idle, .fetch, .norm, .dark, .rowEn, .cell, .colOn, .pulse, .colOff, .rowDis, .done, .fault],
        c = stCode st) ∨
      (11 ≤ c.toNat ∧ c.toNat ≤ 14 ∧ decodeStep c = .error (.reservedStep c)) := by decide
  exact (key code).imp_left fun ⟨st, _, hst⟩ => ⟨st, hst⟩

/-- No state of the FSM has a reserved code (R162). -/
theorem stCode_not_reserved (st : St) : ¬(11 ≤ (stCode st).toNat ∧ (stCode st).toNat ≤ 14) := by
  cases st <;> decide

/-! ### What a decoder answers is an instruction of its format (R80, R83) -/

theorem decodeFrame_wf (w : FrameWord) : (decodeFrame w).wf = true ∧ formatOf (decodeFrame w) = .frame := by
  rcases decodeFrame_cases w with ⟨-, h⟩ | ⟨hw, h⟩ <;> rw [h]
  · exact ⟨rfl, rfl⟩
  · exact ⟨bne_iff_ne.mpr hw, rfl⟩

theorem decodeAccess_wf (w : AccessWord) : (decodeAccess w).wf = true ∧ formatOf (decodeAccess w) = .access := by
  rcases decodeAccess_cases w with ⟨idx, h⟩ | ⟨idx, data, h⟩ <;> rw [h] <;> exact ⟨rfl, rfl⟩

theorem cmdInstr_wf (c : Cmd) : (cmdInstr c).wf = true ∧ formatOf (cmdInstr c) = .cmd := by
  cases c <;> exact ⟨rfl, rfl⟩

theorem lineInstr_wf (op : LineOp) : (lineInstr op).wf = true ∧ formatOf (lineInstr op) = .uop := by
  cases op <;> exact ⟨rfl, rfl⟩

theorem stepInstr_wf (st : St) : (stepInstr st).wf = true ∧ formatOf (stepInstr st) = .step := by
  cases st <;> exact ⟨rfl, rfl⟩

theorem decodeUop_wf {code : UopCode} {arg : Word} {i : Instr} (h : decodeUop code arg = .ok i) :
    i.wf = true ∧ formatOf i = .uop := by
  rcases decodeUop_cases code arg with ⟨op, -, heq⟩ | ⟨-, heq⟩ | ⟨-, -, heq⟩ | ⟨-, -, heq⟩ | ⟨-, heq⟩ <;>
    rw [heq] at h <;> cases h
  · exact lineInstr_wf op
  · exact ⟨rfl, rfl⟩
  · exact ⟨rfl, rfl⟩

theorem decodeStep_wf {code : BitVec 4} {i : Instr} (h : decodeStep code = .ok i) :
    i.wf = true ∧ formatOf i = .step := by
  rcases decodeStep_cases code with ⟨st, rfl⟩ | ⟨-, -, heq⟩
  · rw [decodeStep_stCode] at h
    cases h
    exact stepInstr_wf st
  · rw [heq] at h
    cases h

/-- A decoder answers an instruction only for a number in its format's width. -/
theorem decodeBits_of_decode {f : Format} {n : Nat} {i : Instr} (h : decode f n = .ok i) : decodeBits f n = .ok i := by
  unfold decode at h
  split at h
  · exact h
  · cases h

/-! ### The encoder, format by format -/

/-- A step is read back from its word (R93). -/
theorem decode_encode_stepInstr (st : St) :
    decode (formatOf (stepInstr st)) (encode (stepInstr st)) = .ok (stepInstr st) := by
  have henc : encode (stepInstr st) = (stCode st).toNat := by cases st <;> rfl
  obtain ⟨-, hfmt⟩ := stepInstr_wf st
  rw [hfmt, henc, decode_step, decodeStep_stCode]

/-- A line operation is read back from its word (R89). -/
theorem decode_encode_lineInstr (op : LineOp) :
    decode (formatOf (lineInstr op)) (encode (lineInstr op)) = .ok (lineInstr op) := by
  have henc : encode (lineInstr op) = uopWord 0 (lineCode op) := by cases op <;> rfl
  obtain ⟨-, hfmt⟩ := lineInstr_wf op
  rw [hfmt, henc, decode_uopWord, decodeUop_lineCode]

/-- A command is read back from its word (R86). -/
theorem decode_encode_cmdInstr (c : Cmd) :
    decode (formatOf (cmdInstr c)) (encode (cmdInstr c)) = .ok (cmdInstr c) := by
  cases c <;> decide

end Sys2Proof

namespace Sys2Proof.Machine

/-- A line operation as an instruction issues it and stops there (R111 to R114). -/
theorem exec_lineInstr (op : LineOp) (s : State) : exec (lineInstr op) s = .next (s.issueLine op id) := by
  cases op <;> rfl

end Sys2Proof.Machine

section
open Sys2Proof Sys2Proof.Machine

/-- Settles O1, by the instruction's constructor: each format's encoder lays out the parts its decoder takes apart. -/
theorem decodeOfEncodeIsIdentity : Obligations.DecodeOfEncodeIsIdentity := by
  intro i hi
  cases i with
  | frameDark => exact decode_frame 0
  | frameLit cells => exact (decode_frame cells).trans (congrArg Except.ok (decodeFrame_of_ne (bne_iff_ne.mp hi)))
  | csrRd idx => exact (decode_access _).trans (congrArg Except.ok (decodeAccess_read idx 0))
  | csrWr idx data => exact (decode_access _).trans (congrArg Except.ok (decodeAccess_write idx data))
  | nop => exact decode_encode_cmdInstr .nop
  | render => exact decode_encode_cmdInstr .render
  | play => exact decode_encode_cmdInstr .play
  | cmdRsvd => exact decode_encode_cmdInstr .rsvd
  | rowDe idx => exact decode_encode_lineInstr (.rowDe idx)
  | rowAs idx => exact decode_encode_lineInstr (.rowAs idx)
  | colDe idx => exact decode_encode_lineInstr (.colDe idx)
  | colAs idx => exact decode_encode_lineInstr (.colAs idx)
  | waitUs micros => exact (decode_uopWord _ _).trans (decodeUop_waitUs micros)
  | waitMs millis => exact (decode_uopWord _ _).trans (decodeUop_waitMs millis)
  | sIdle => exact decode_encode_stepInstr .idle
  | sFetch => exact decode_encode_stepInstr .fetch
  | sNorm => exact decode_encode_stepInstr .norm
  | sDark => exact decode_encode_stepInstr .dark
  | sRowEn => exact decode_encode_stepInstr .rowEn
  | sCell => exact decode_encode_stepInstr .cell
  | sColOn => exact decode_encode_stepInstr .colOn
  | sPulse => exact decode_encode_stepInstr .pulse
  | sColOff => exact decode_encode_stepInstr .colOff
  | sRowDis => exact decode_encode_stepInstr .rowDis
  | sDone => exact decode_encode_stepInstr .done
  | sFault => exact decode_encode_stepInstr .fault

/-- Settles O2, format by format, from what each decoder can answer. -/
theorem decodedInstructionIsWellFormed : Obligations.DecodedInstructionIsWellFormed := by
  intro f n i h
  have hbits : decodeBits f n = .ok i := decodeBits_of_decode h
  cases f with
  | frame =>
    cases hbits
    exact decodeFrame_wf _
  | access =>
    cases hbits
    exact decodeAccess_wf _
  | cmd =>
    cases hbits
    rw [decodeCmd_eq]
    exact cmdInstr_wf _
  | uop => exact decodeUop_wf hbits
  | step => exact decodeStep_wf hbits

/-- Settles O3: the decoder of frame words rejects none. -/
theorem everyFrameWordIsLegal : Obligations.EveryFrameWordIsLegal := by
  intro w
  obtain ⟨hwf, -⟩ := decodeFrame_wf w
  refine ⟨decodeFrame w, decode_frame w, hwf, fun hw => ?_, fun hw => decodeFrame_of_ne hw⟩
  rw [hw]
  rfl

/-- Settles O4: `CMD` is two bits, a code of `class` 0 tells its operation alone, and a read takes no data. -/
theorem ignoredBitsDoNotMatter : Obligations.IgnoredBitsDoNotMatter := by
  refine ⟨fun a b h => ?_, fun c a b h => ?_, fun x a b => ?_⟩
  · rw [decodeCmd_eq, decodeCmd_eq, cmdOf_congr h]
  · obtain ⟨op, rfl⟩ := exists_lineCode h
    rw [decodeUop_lineCode, decodeUop_lineCode]
  · rw [decodeAccess_read, decodeAccess_read]

/-- Settles O5: a code the decoder answers is below 16, one of the two waits, or the code of a state. -/
theorem reservedCodesAreRejected : Obligations.ReservedCodesAreRejected := by
  refine ⟨fun c a => ?_, fun c => ?_, fun st => ⟨stepInstr st, decodeStep_stCode st⟩⟩
  · rcases decodeUop_cases c a with ⟨op, rfl, h⟩ | ⟨rfl, h⟩ | ⟨rfl, -, h⟩ | ⟨rfl, -, h⟩ | ⟨hc, h⟩ <;> rw [h]
    · have hlt := toNat_lineCode_lt op
      exact iff_of_false nofun (by omega)
    · exact iff_of_false nofun (by decide)
    · exact iff_of_false nofun (by decide)
    · exact iff_of_false nofun (by decide)
    · exact iff_of_true rfl hc
  · rcases decodeStep_cases c with ⟨st, rfl⟩ | ⟨hlo, hhi, h⟩
    · rw [decodeStep_stCode]
      exact iff_of_false nofun (stCode_not_reserved st)
    · exact iff_of_true h ⟨hlo, hhi⟩

/-- Settles O6, by running the decoders on the seven words. -/
theorem wordsOfTheSpecDecode : Obligations.WordsOfTheSpecDecode := by
  refine ⟨?_, ?_, ?_, ?_, ?_, ?_, ?_⟩ <;> decide

/-- Settles O16: a failing line operation records its own code (R222), which the decoder reads back. -/
theorem finfoIsTheFailedOperation : Obligations.FinfoIsTheFailedOperation := by
  intro i s x hi hfail
  obtain ⟨op, rfl, rfl⟩ : ∃ op, i = lineInstr op ∧ x = lineIdx op := by
    rcases hi with h | h | h | h
    · exact ⟨.rowDe x, h, rfl⟩
    · exact ⟨.rowAs x, h, rfl⟩
    · exact ⟨.colDe x, h, rfl⟩
    · exact ⟨.colAs x, h, rfl⟩
  refine ⟨s.issueLine op id, exec_lineInstr op s, ?_⟩
  obtain ⟨-, -, -, hidx⟩ := lineCode_parts op
  rw [State.issueLine_of_fault hfail, State.enterFault_fcause, State.enterFault_finfo]
  exact ⟨rfl, toNat_lineCode_lt op, decodeUop_lineCode op, hidx⟩

end

/-! PROOF. Two renders that agree on what a render reads stay in lockstep (O37). -/

namespace Sys2Proof.Machine

/-! ### The relation -/

/-- Two states of the same render, whose traces were `b` and `b'` at its beginning: they agree on everything that an
enabled step of a render reads, and have appended the same events (R168). Nothing is said of the lines, of what the
host writes and the render does not read, or of the turns. -/
structure State.Lockstep (b b' : List Event) (s s' : State) : Prop where
  frame : s.frame = s'.frame
  total : s.total = s'.total
  minp : s.minp = s'.minp
  pcnt : s.pcnt = s'.pcnt
  pass : s.pass = s'.pass
  row : s.row = s'.row
  col : s.col = s'.col
  st : s.st = s'.st
  wpend : s.wpend = s'.wpend
  answers : s.answers = s'.answers
  draws : s.draws = s'.draws
  trace : ∃ es, s.trace = b ++ es ∧ s'.trace = b' ++ es

section
variable {b b' : List Event} {s s' : State}

theorem State.Lockstep.renderOver (h : State.Lockstep b b' s s') : s.renderOver = s'.renderOver := by
  rw [State.renderOver, State.renderOver, h.st]

theorem State.Lockstep.lineAnswer (h : State.Lockstep b b' s s') : s.lineAnswer = s'.lineAnswer := by
  rw [State.lineAnswer, State.lineAnswer, h.answers, h.draws]

/-! ### The shared operations keep it -/

theorem State.Lockstep.record (h : State.Lockstep b b' s s') (e : Event) :
    State.Lockstep b b' (s.record e) (s'.record e) := by
  obtain ⟨es, hs, hs'⟩ := h.trace
  exact { h with trace := ⟨es ++ [e], by simp [hs], by simp [hs']⟩ }

theorem State.Lockstep.answered (h : State.Lockstep b b' s s') : State.Lockstep b b' s.answered s'.answered :=
  { h with answers := by simp [h.answers], draws := by simp [h.answers, h.draws] }

theorem State.Lockstep.drive (h : State.Lockstep b b' s s') (op : LineOp) :
    State.Lockstep b b' (s.drive op) (s'.drive op) := by
  cases op <;> exact { h with }

theorem State.Lockstep.enterFault (h : State.Lockstep b b' s s') (c : Cause) (info : UopCode) :
    State.Lockstep b b' (s.enterFault c info) (s'.enterFault c info) :=
  { h with st := rfl, wpend := rfl }

/-- The drive lines answer both states alike, so both fail or both go on (R118). -/
theorem State.Lockstep.issueLine (h : State.Lockstep b b' s s') (op : LineOp) {k : State → State}
    (hk : ∀ {u u' : State}, State.Lockstep b b' u u' → State.Lockstep b b' (k u) (k u')) :
    State.Lockstep b b' (s.issueLine op k) (s'.issueLine op k) := by
  have hr := (h.record (lineEvent op)).answered
  rcases s.issueLine_cases op k with ⟨ha, heq⟩ | ⟨ha, heq⟩ <;> rw [heq] <;> rw [h.lineAnswer] at ha
  · rw [State.issueLine_of_fault ha]
    exact hr.enterFault _ _
  · rw [State.issueLine_of_ok ha]
    exact hk (hr.drive op)

theorem State.Lockstep.issueWait (h : State.Lockstep b b' s s') (n : Word) :
    State.Lockstep b b' (s.issueWait n) (s'.issueWait n) :=
  { h.record (.waitUs n) with wpend := rfl }

theorem State.Lockstep.whenFree (h : State.Lockstep b b' s s') {body : State → State}
    (hb : State.Lockstep b b' (body s) (body s')) : State.Lockstep b b' (s.whenFree body) (s'.whenFree body) := by
  unfold State.whenFree
  rw [h.wpend]
  split
  · exact h
  · exact hb

theorem State.Lockstep.completeWait (h : State.Lockstep b b' s s') :
    State.Lockstep b b' s.completeWait s'.completeWait := by
  unfold State.completeWait
  rw [h.st]
  split <;> exact { h with wpend := rfl, st := rfl }

/-! ### Every enabled step of a render keeps it -/

/-- S_NORM writes the pass counter, the row and the column, so before it the two need not agree on them (R135). -/
theorem State.lockstep_normalize (hf : s.frame = s'.frame) (ht : s.total = s'.total) (hm : s.minp = s'.minp)
    (hw : s.wpend = s'.wpend) (ha : s.answers = s'.answers) (hd : s.draws = s'.draws)
    (htr : ∃ es, s.trace = b ++ es ∧ s'.trace = b' ++ es) : State.Lockstep b b' s.normalize s'.normalize := by
  constructor <;> simp [hf, ht, hm, hw, ha, hd, htr]

theorem State.Lockstep.normStep (h : State.Lockstep b b' s s') : State.Lockstep b b' s.normStep s'.normStep :=
  h.whenFree (State.lockstep_normalize h.frame h.total h.minp h.wpend h.answers h.draws h.trace)

theorem State.Lockstep.darkStep (h : State.Lockstep b b' s s') : State.Lockstep b b' s.darkStep s'.darkStep := by
  unfold State.darkStep
  rw [h.wpend, h.total]
  split
  · exact { h with wpend := rfl, st := rfl }
  · exact h.issueWait s'.total

theorem State.Lockstep.rowEnStep (h : State.Lockstep b b' s s') : State.Lockstep b b' s.rowEnStep s'.rowEnStep := by
  refine h.whenFree ?_
  rw [h.row]
  exact h.issueLine _ fun hu => { hu with col := rfl, st := rfl }

theorem State.Lockstep.cellStep (h : State.Lockstep b b' s s') : State.Lockstep b b' s.cellStep s'.cellStep := by
  refine h.whenFree ?_
  rw [h.frame, h.row, h.col]
  split
  · exact { h with frame := rfl, row := rfl, col := rfl, st := rfl }
  split
  · exact { h with frame := rfl, row := rfl, col := rfl, st := rfl }
  · exact { h with frame := rfl, row := rfl, col := rfl }

theorem State.Lockstep.colOnStep (h : State.Lockstep b b' s s') : State.Lockstep b b' s.colOnStep s'.colOnStep := by
  refine h.whenFree ?_
  rw [h.col]
  exact h.issueLine _ fun hu => { hu with st := rfl }

theorem State.Lockstep.pulseStep (h : State.Lockstep b b' s s') : State.Lockstep b b' s.pulseStep s'.pulseStep := by
  unfold State.pulseStep
  rw [h.wpend, h.minp]
  split
  · exact { h with wpend := rfl, st := rfl }
  · exact h.issueWait s'.minp

theorem State.Lockstep.nextColumn (h : State.Lockstep b b' s s') :
    State.Lockstep b b' s.nextColumn s'.nextColumn := by
  unfold State.nextColumn
  rw [h.col]
  split <;> exact { h with col := rfl, st := rfl }

theorem State.Lockstep.colOffStep (h : State.Lockstep b b' s s') :
    State.Lockstep b b' s.colOffStep s'.colOffStep := by
  refine h.whenFree ?_
  rw [h.col]
  exact h.issueLine _ State.Lockstep.nextColumn

theorem State.Lockstep.nextRow (h : State.Lockstep b b' s s') : State.Lockstep b b' s.nextRow s'.nextRow := by
  unfold State.nextRow
  rw [h.row, h.pass, h.pcnt]
  split
  · split <;> exact { h with pcnt := rfl, pass := rfl, row := rfl, st := rfl }
  · exact { h with pcnt := rfl, pass := rfl, row := rfl, st := rfl }

theorem State.Lockstep.rowDisStep (h : State.Lockstep b b' s s') :
    State.Lockstep b b' s.rowDisStep s'.rowDisStep := by
  refine h.whenFree ?_
  rw [h.row]
  exact h.issueLine _ State.Lockstep.nextRow

/-- Both states take the same enabled step (R150). -/
theorem State.Lockstep.renderStep (h : State.Lockstep b b' s s') :
    State.Lockstep b b' s.renderStep s'.renderStep := by
  unfold State.renderStep
  rw [h.wpend, h.st]
  split
  · exact h.completeWait
  cases s'.st with
  | idle | fetch | done | fault => exact h
  | norm => exact h.normStep
  | dark => exact h.darkStep
  | rowEn => exact h.rowEnStep
  | cell => exact h.cellStep
  | colOn => exact h.colOnStep
  | pulse => exact h.pulseStep
  | colOff => exact h.colOffStep
  | rowDis => exact h.rowDisStep

/-- Both states end their render in the same step (R161, R225). -/
theorem State.Lockstep.renderSteps (k : Nat) (h : State.Lockstep b b' s s') :
    State.Lockstep b b' (State.renderSteps k s) (State.renderSteps k s') := by
  induction k generalizing s s' with
  | zero => exact h
  | succ k ih =>
    unfold State.renderSteps
    rw [h.renderOver]
    split
    · exact h
    · exact ih h.renderStep

end

/-- The first enabled step of a render is S_NORM (R182, R183). -/
theorem State.runFrame_of_free {s : State} (hw : s.wpend = false) (f : FrameWord) :
    s.runFrame f = State.renderSteps (3 + 88 * (normPcnt f s.total s.minp).toNat)
      (State.normalize { s with frame := f, st := .norm }) := by
  have hb : renderBound f s.total s.minp = 1 + (3 + 88 * (normPcnt f s.total s.minp).toNat) := by
    rw [renderBound]
    omega
  rw [State.runFrame, hb, State.renderSteps_add]
  simp [State.renderSteps, State.renderOver, State.renderStep, State.normStep, State.whenFree, hw]

end Sys2Proof.Machine

section
open Sys2Proof Sys2Proof.Machine

/-- Settles O37: S_NORM brings two states that agree on its parameters and on the answers to come into lockstep, and
every enabled step keeps them in it, a failing line operation among them. -/
theorem renderIsDeterministic : Obligations.RenderIsDeterministic := by
  intro f s s' hw hw' ht hm ha hd
  have hn : normPcnt f s.total s.minp = normPcnt f s'.total s'.minp := by rw [ht, hm]
  have hlock : State.Lockstep s.trace s'.trace (s.runFrame f) (s'.runFrame f) := by
    rw [State.runFrame_of_free hw, State.runFrame_of_free hw', hn]
    refine State.Lockstep.renderSteps _ (State.lockstep_normalize rfl ht hm ?_ ha hd ⟨[], ?_, ?_⟩)
    · exact hw.trans hw'.symm
    · exact (List.append_nil _).symm
    · exact (List.append_nil _).symm
  obtain ⟨es, hes, hes'⟩ := hlock.trace
  exact ⟨_, _, es, exec_decodeFrame f s, exec_decodeFrame f s', hes, hes', hlock.st⟩

end

/-! PROOF. What a step adds to the trace and to the fault record (O53, O54). -/

namespace Sys2Proof.Machine

/-! ### The relation -/

/-- From `s` to `t` at most one micro-operation is issued, none while a wait is pending (R110), and a HardwareFault is
recorded only where the line operation fails (R118). -/
structure State.Accounted (s t : State) : Prop where
  event : addsAtMostOneEvent s t
  held : s.wpend = true → t.trace = s.trace
  cause : s.lineAnswer = false → t.fcause = .hardwareFault → s.fcause = .hardwareFault

theorem State.accounted_of_trace {s t : State} (htr : t.trace = s.trace)
    (hc : t.fcause = .hardwareFault → s.fcause = .hardwareFault) : s.Accounted t :=
  ⟨.inl htr, fun _ => htr, fun _ => hc⟩

/-- Where neither the trace nor `FCAUSE` changes. -/
theorem State.accounted_of_eq {s t : State} (htr : t.trace = s.trace) (hc : t.fcause = s.fcause) : s.Accounted t :=
  State.accounted_of_trace htr (by rw [hc]; exact id)

theorem State.accounted_self (s : State) : s.Accounted s :=
  State.accounted_of_eq rfl rfl

/-- Where one micro-operation is issued, no wait pending. -/
theorem State.accounted_of_event {s t : State} {e : Event} (hw : s.wpend = false) (htr : t.trace = s.trace ++ [e])
    (hc : s.lineAnswer = false → t.fcause = .hardwareFault → s.fcause = .hardwareFault) : s.Accounted t :=
  ⟨.inr ⟨e, htr⟩, fun h => by simp [hw] at h, hc⟩

/-- A line operation issues its own event; on success what follows it is to issue none and to record no fault (R110,
R118). -/
theorem State.accounted_issueLine {s : State} (hw : s.wpend = false) (op : LineOp) {k : State → State}
    (hk : ∀ u, (k u).trace = u.trace ∧ (k u).fcause = u.fcause) : s.Accounted (s.issueLine op k) := by
  obtain ⟨htr, hc⟩ := hk ((s.record (lineEvent op)).answered.drive op)
  rcases s.issueLine_cases op k with ⟨ha, heq⟩ | ⟨-, heq⟩ <;> rw [heq]
  · exact State.accounted_of_event hw rfl (by simp [ha])
  · exact State.accounted_of_event (e := lineEvent op) hw (by simp [htr]) (by simp [hc])

/-- A wait issues its own event (R115). -/
theorem State.accounted_issueWait {s : State} (hw : s.wpend = false) (n : Word) : s.Accounted (s.issueWait n) :=
  State.accounted_of_event hw rfl fun _ => id

/-! ### The turns of the agents -/

theorem State.nextColumn_trace_fcause (s : State) :
    s.nextColumn.trace = s.trace ∧ s.nextColumn.fcause = s.fcause := by
  unfold State.nextColumn
  split <;> exact ⟨rfl, rfl⟩

theorem State.nextRow_trace_fcause (s : State) : s.nextRow.trace = s.trace ∧ s.nextRow.fcause = s.fcause := by
  unfold State.nextRow
  split
  · split <;> exact ⟨rfl, rfl⟩
  · exact ⟨rfl, rfl⟩

/-- A completion issues nothing (R119). -/
theorem State.accounted_completeWait (s : State) : s.Accounted s.completeWait := by
  rcases s.completeWait_cases with ⟨-, heq⟩ | ⟨-, heq⟩ | ⟨-, -, heq⟩ <;> rw [heq] <;>
    exact State.accounted_of_eq rfl rfl

/-- S_CELL issues nothing (R155). -/
theorem State.accounted_cellStep {s : State} (hst : s.st = .cell) (hw : s.wpend = false) :
    s.Accounted s.cellStep := by
  rcases State.cellStep_cases hst hw with ⟨-, heq⟩ | ⟨-, heq⟩ <;> rw [heq]
  · exact State.accounted_of_eq rfl rfl
  · obtain ⟨htr, hc⟩ := s.nextColumn_trace_fcause
    exact State.accounted_of_eq htr hc

/-- The enabled step of a render: S_NORM and S_CELL issue nothing, each of the others its own micro-operation (R110,
R150). -/
theorem State.accounted_renderStep {s : State} (hw : s.wpend = false) : s.Accounted s.renderStep := by
  cases hst : s.st <;> simp only [State.renderStep, hw, hst, Bool.false_eq_true, if_false]
  case idle | fetch | done | fault => exact s.accounted_self
  case norm =>
    rw [State.normStep, State.whenFree_of_free hw]
    exact State.accounted_of_eq s.normalize_trace s.normalize_fcause
  case dark =>
    rw [State.darkStep, hw]
    exact State.accounted_issueWait hw _
  case rowEn =>
    rw [State.rowEnStep, State.whenFree_of_free hw]
    exact State.accounted_issueLine hw _ fun _ => ⟨rfl, rfl⟩
  case cell => exact State.accounted_cellStep hst hw
  case colOn =>
    rw [State.colOnStep, State.whenFree_of_free hw]
    exact State.accounted_issueLine hw _ fun _ => ⟨rfl, rfl⟩
  case pulse =>
    rw [State.pulseStep, hw]
    exact State.accounted_issueWait hw _
  case colOff =>
    rw [State.colOffStep, State.whenFree_of_free hw]
    exact State.accounted_issueLine hw _ State.nextColumn_trace_fcause
  case rowDis =>
    rw [State.rowDisStep, State.whenFree_of_free hw]
    exact State.accounted_issueLine hw _ State.nextRow_trace_fcause

/-- S_DONE issues nothing (R161, R184). -/
theorem State.accounted_doneStep {s : State} (hw : s.wpend = false) : s.Accounted s.doneStep := by
  rw [State.doneStep, State.whenFree_of_free hw]
  cases s.mode <;> exact State.accounted_of_eq rfl rfl

theorem State.Accounted.of_blockTurn {s t : State} (ht : blockTurn s = .next t) : s.Accounted t := by
  rcases blockTurn_cases s with ⟨-, heq⟩ | ⟨hw, ⟨-, heq⟩ | ⟨-, heq⟩ | ⟨-, -, heq⟩⟩ <;> rw [heq] at ht
  · cases ht
    exact s.accounted_self
  · rcases execSFetch_cases s with ⟨-, hf⟩ | ⟨-, -, w, -, hf⟩ | ⟨-, -, hf⟩ <;> cases hf.symm.trans ht
    · exact s.accounted_self
    · exact State.accounted_of_eq rfl rfl
  · cases ht
    exact State.accounted_doneStep hw
  · cases ht
    exact State.accounted_renderStep hw

/-- The faults of the commands are not HardwareFault (R215). -/
theorem State.accounted_takeCommand (c : Cmd) (s : State) : s.Accounted (s.takeCommand c) := by
  rcases s.takeCommand_cases c with heq | ⟨f, -, hf, heq⟩ | ⟨-, heq⟩ | ⟨-, -, -, -, heq⟩ <;> rw [heq]
  · exact s.accounted_self
  · exact State.accounted_of_trace rfl fun h => absurd h hf
  · exact State.accounted_of_eq rfl rfl
  · exact State.accounted_of_eq rfl rfl

theorem State.accounted_takeWrite (idx : CsrIdx) (d : Word) (s : State) : s.Accounted (s.takeWrite idx d) := by
  unfold State.takeWrite
  split
  · exact s.accounted_takeCommand _
  · rcases parameterWrite_cases idx d s with heq | heq | heq | heq | heq | heq | heq <;> rw [heq] <;>
      exact State.accounted_of_eq rfl rfl

/-- The host issues no micro-operation (R110, R196, R197). -/
theorem State.Accounted.of_hostTurn {s t : State} {w : AccessWord} (ht : exec (decodeAccess w) s = .next t) :
    s.Accounted t := by
  rcases hostTurn_cases w s with ⟨idx, heq⟩ | ⟨idx, d, heq⟩ <;> cases heq.symm.trans ht
  · exact State.accounted_of_eq rfl rfl
  · rcases s.whenIdle_cases (State.takeWrite idx d) with ⟨-, heq⟩ | ⟨-, heq⟩ <;> rw [heq]
    · exact s.accounted_self
    · exact s.accounted_takeWrite idx d

/-- One turn of any agent but the host's reset, which begins a new trace (R10, R240). -/
theorem State.Accounted.of_takeTurn {s t : State} {u : Turn} (hu : u ≠ .reset) (ht : takeTurn u s = .next t) :
    s.Accounted t := by
  cases u with
  | block => exact State.Accounted.of_blockTurn ht
  | delay =>
    rcases delayTurn_cases s with ⟨-, heq⟩ | ⟨-, heq⟩ <;> cases heq.symm.trans ht
    · exact s.accounted_completeWait
    · exact s.accounted_self
  | host w => exact State.Accounted.of_hostTurn ht
  | reset => exact absurd rfl hu

/-- A step is its turn: taking the turn off the list touches neither the trace nor the answers. -/
theorem State.Accounted.of_step {s t : State} (hr : s.nextTurn ≠ .reset) (ht : step s = .next t) : s.Accounted t :=
  have h : s.turnTaken.Accounted t := State.Accounted.of_takeTurn hr ht
  ⟨h.event, h.held, h.cause⟩

end Sys2Proof.Machine

section
open Sys2Proof Sys2Proof.Machine

/-- Settles O53: the turn of each agent but reset accounts for what it adds to the trace. -/
theorem atMostOneEventPerStep : Obligations.AtMostOneEventPerStep := by
  intro s t hr ht
  have h : s.Accounted t := .of_step hr ht
  exact ⟨h.event, h.held⟩

/-- Settles O54: reset clears `FCAUSE`, and the turn of every other agent accounts for its fault. -/
theorem noFailureNoHardwareFault : Obligations.NoFailureNoHardwareFault := by
  intro s t ha ht
  by_cases hr : s.nextTurn = .reset
  · rw [step_eq, hr] at ht
    cases ht
    exact nofun
  · exact (State.Accounted.of_step hr ht).cause ha

end

/-! PROOF. The micro-operations as instructions (O11 to O15), and the turns while a wait is pending (O8). -/

namespace Sys2Proof.Machine

/-! ### Line operations, by their result (R111 to R114, R216) -/

theorem exec_lineInstr_of_ok {s : State} (h : s.lineAnswer = false) (op : LineOp) :
    exec (lineInstr op) s = .next ({ s.answered with trace := s.trace ++ [lineEvent op] }.drive op) := by
  rw [exec_lineInstr, State.issueLine_of_ok h]
  rfl

theorem exec_lineInstr_of_fault {s : State} (h : s.lineAnswer = true) (op : LineOp) :
    exec (lineInstr op) s =
      .next { s.answered with trace := s.trace ++ [lineEvent op], st := .fault, fcause := .hardwareFault,
                              finfo := lineCode op, wpend := false } := by
  rw [exec_lineInstr, State.issueLine_of_fault h]
  rfl

/-- The code of a line operation is the first code of its kind plus the index of its line (R89). -/
theorem lineCode_eq_add (i : LineIdx) :
    lineCode (.rowDe i) = 0x00#5 + i.setWidth 5 ∧ lineCode (.rowAs i) = 0x04#5 + i.setWidth 5 ∧
    lineCode (.colDe i) = 0x08#5 + i.setWidth 5 ∧ lineCode (.colAs i) = 0x0C#5 + i.setWidth 5 := by
  revert i
  decide

/-- The bit of line `i` is bit `i` alone (R36, R37). -/
theorem getLsbD_lineBit (i : LineIdx) (j : Nat) : (lineBit i).getLsbD j = decide (i.toNat = j) := by
  have htwo : lineBit i = BitVec.twoPow 4 i.toNat := rfl
  rw [htwo, BitVec.getLsbD_twoPow, decide_eq_true i.isLt, Bool.true_and]

/-- To set the bit of an asserted line changes no line (R117). -/
theorem or_lineBit_of_asserted {l : Lines} {i : LineIdx} (h : l.getLsbD i.toNat = true) : l ||| lineBit i = l := by
  refine BitVec.eq_of_getLsbD_eq fun j _ => ?_
  rw [BitVec.getLsbD_or, getLsbD_lineBit]
  by_cases hj : i.toNat = j
  · subst hj
    simp [h]
  · simp [hj]

/-- To clear the bit of a deasserted line changes no line (R117). -/
theorem and_not_lineBit_of_deasserted {l : Lines} {i : LineIdx} (h : l.getLsbD i.toNat = false) :
    l &&& ~~~lineBit i = l := by
  refine BitVec.eq_of_getLsbD_eq fun j hlt => ?_
  rw [BitVec.getLsbD_and, BitVec.getLsbD_not, getLsbD_lineBit]
  by_cases hj : i.toNat = j
  · subst hj
    simp [h]
  · simp [hj, hlt]

/-! ### Waits (R115, R116) -/

/-- `1000 * n` of 16 bits fits 32 bits (R116). -/
theorem toNat_millisToMicros (n : BitVec 16) : (millisToMicros n).toNat = 1000 * n.toNat := by
  have hn := n.isLt
  rw [millisToMicros, BitVec.toNat_ofNat, Nat.mod_eq_of_lt (by omega)]

end Sys2Proof.Machine

section
open Sys2Proof Sys2Proof.Machine

/-- Settles O8: the block's turn is held by a pending wait, and the delay source's completes it in the state that
issued it. -/
theorem pendingWaitHoldsUntilCompleted : Obligations.PendingWaitHoldsUntilCompleted := by
  intro s rest
  refine ⟨fun ht hw => ?_, fun ht hw hst => ?_, fun ht hw hst => ?_, fun ht hw => ?_⟩ <;>
    rw [step_of_turns ht, takeTurn]
  · rw [blockTurn, if_pos hw]
  · rw [delayTurn, if_pos hw, State.completeWait, hst]
    rfl
  · rw [delayTurn, if_pos hw, State.completeWait, hst]
    rfl
  · rw [delayTurn, if_neg (by simp [hw])]

/-- Settles O11: a row operation drives its line, or fails with its own code. -/
theorem rowLineResults : Obligations.RowLineResults := by
  intro i s
  obtain ⟨hde, has, -, -⟩ := lineCode_eq_add i
  refine ⟨fun h => exec_lineInstr_of_ok h (.rowAs i), fun h => ?_, fun h => exec_lineInstr_of_ok h (.rowDe i),
    fun h => ?_⟩
  · rw [← has]
    exact exec_lineInstr_of_fault h (.rowAs i)
  · rw [← hde]
    exact exec_lineInstr_of_fault h (.rowDe i)

/-- Settles O12: a column operation drives its line, or fails with its own code. -/
theorem columnLineResults : Obligations.ColumnLineResults := by
  intro i s
  obtain ⟨-, -, hde, has⟩ := lineCode_eq_add i
  refine ⟨fun h => exec_lineInstr_of_ok h (.colAs i), fun h => ?_, fun h => exec_lineInstr_of_ok h (.colDe i),
    fun h => ?_⟩
  · rw [← has]
    exact exec_lineInstr_of_fault h (.colAs i)
  · rw [← hde]
    exact exec_lineInstr_of_fault h (.colDe i)

/-- Settles O13: WAIT.US is its issue. -/
theorem waitMicrosIssued : Obligations.WaitMicrosIssued :=
  fun n s => ⟨s.issueWait n, rfl, rfl, rfl, rfl⟩

/-- Settles O14: the product of WAIT.MS is the one the model forms, which fits its word. -/
theorem waitMillisIsThousandMicros : Obligations.WaitMillisIsThousandMicros :=
  fun n _ => ⟨millisToMicros n, toNat_millisToMicros n, rfl, rfl⟩

/-- Settles O15: where the drive line answers ok, the line is driven to the level it already has. -/
theorem lineOperationsAreIdempotent : Obligations.LineOperationsAreIdempotent := by
  intro i s h
  refine ⟨fun hi => ?_, fun hi => ?_, fun hi => ?_, fun hi => ?_⟩
  · refine (exec_lineInstr_of_ok h (.rowAs i)).trans ?_
    simp [State.drive, lineEvent, or_lineBit_of_asserted hi]
  · refine (exec_lineInstr_of_ok h (.rowDe i)).trans ?_
    simp [State.drive, lineEvent, and_not_lineBit_of_deasserted hi]
  · refine (exec_lineInstr_of_ok h (.colAs i)).trans ?_
    simp [State.drive, lineEvent, or_lineBit_of_asserted hi]
  · refine (exec_lineInstr_of_ok h (.colDe i)).trans ?_
    simp [State.drive, lineEvent, and_not_lineBit_of_deasserted hi]

end

/-! PROOF. The normalizer: its functions (O18, O19), the law of its quotient (O20) and its step S_NORM (O21). -/

namespace Sys2Proof.Machine

/-- The lit count of a frame, bit by bit (R130). -/
theorem litNat_eq_sum_bits (f : FrameWord) :
    litNat f =
      (f.getLsbD 0).toNat + (f.getLsbD 1).toNat + (f.getLsbD 2).toNat + (f.getLsbD 3).toNat +
      (f.getLsbD 4).toNat + (f.getLsbD 5).toNat + (f.getLsbD 6).toNat + (f.getLsbD 7).toNat +
      (f.getLsbD 8).toNat + (f.getLsbD 9).toNat + (f.getLsbD 10).toNat + (f.getLsbD 11).toNat +
      (f.getLsbD 12).toNat + (f.getLsbD 13).toNat + (f.getLsbD 14).toNat + (f.getLsbD 15).toNat := by
  simp [litNat, List.range_succ, Nat.add_assoc]

/-- A lit frame has a lit cell (R130). -/
theorem litNat_pos {f : FrameWord} (hf : f ≠ 0) : 0 < litNat f :=
  Nat.pos_of_ne_zero fun h => hf ((litNat_eq_zero_iff f).mp h)

/-- The pass duration of at most sixteen cells fits its register (R131). -/
theorem toNat_passdur (m : Word) {l : BitVec 5} (hl : l.toNat ≤ 16) : (passdur m l).toNat = m.toNat * l.toNat := by
  have hle : m.toNat * l.toNat ≤ m.toNat * 16 := Nat.mul_le_mul_left _ hl
  have hm := m.isLt
  rw [passdur, BitVec.toNat_ofNat, Nat.mod_eq_of_lt (by omega)]

/-- The pass count is not above the budget, so that it fits its register (R132). -/
theorem toNat_passcnt (t : Word) {d : BitVec 36} (hd : d ≠ 0) : (passcnt t d).toNat = t.toNat / d.toNat := by
  have hle : t.toNat / d.toNat ≤ t.toNat := Nat.div_le_self _ _
  have ht := t.isLt
  rw [passcnt, if_neg hd, BitVec.toNat_ofNat, Nat.mod_eq_of_lt (by omega)]

/-- The duration of a pass over a frame (R131). -/
theorem toNat_passdur_litcount (f : FrameWord) (m : Word) :
    (passdur m (litcount f)).toNat = m.toNat * litNat f := by
  have hl := toNat_litcount f
  rw [toNat_passdur m (hl ▸ litNat_le f), hl]

/-- A pass over a lit frame takes time (R138). -/
theorem passdur_pos {f : FrameWord} {m : Word} (hf : f ≠ 0) (hm : m ≠ 0) : 0 < m.toNat * litNat f :=
  Nat.mul_pos (Nat.pos_of_ne_zero fun h => hm (BitVec.eq_of_toNat_eq h)) (litNat_pos hf)

/-- The number of passes over a lit frame (R132, R138). -/
theorem toNat_passcnt_litcount {f : FrameWord} {m : Word} (hf : f ≠ 0) (hm : m ≠ 0) (t : Word) :
    (passcnt t (passdur m (litcount f))).toNat = t.toNat / (m.toNat * litNat f) := by
  have hd := toNat_passdur_litcount f m
  have hne : passdur m (litcount f) ≠ 0 := fun h0 => by
    rw [h0] at hd
    exact absurd hd.symm (passdur_pos hf hm).ne'
  rw [toNat_passcnt t hne, hd]

/-! ### What S_NORM writes (R135) -/

/-- `PDUR` of a lit frame (R135). -/
theorem normPdur_of_lit {f : FrameWord} (hf : f ≠ 0) (m : Word) :
    normPdur f m = BitVec.ofNat 36 (m.toNat * litNat f) := by
  rw [normPdur, if_neg (mt (litcount_eq_zero_iff f).mp hf), passdur, toNat_litcount]

/-- `PDUR` of a lit frame loses nothing in its register (R131). -/
theorem toNat_pdur_of_lit (f : FrameWord) (m : Word) :
    (BitVec.ofNat 36 (m.toNat * litNat f)).toNat = m.toNat * litNat f := by
  rw [← toNat_passdur_litcount, BitVec.ofNat_toNat, BitVec.setWidth_eq]

/-- `PCNT` of a lit frame as a number (R135). -/
theorem toNat_normPcnt {f : FrameWord} {m : Word} (hf : f ≠ 0) (hm : m ≠ 0) (t : Word) :
    (normPcnt f t m).toNat = t.toNat / (m.toNat * litNat f) := by
  rw [normPcnt, if_neg (mt (litcount_eq_zero_iff f).mp hf), toNat_passcnt_litcount hf hm]

/-- `PCNT` of a lit frame (R132, R135). -/
theorem normPcnt_of_lit {f : FrameWord} {m : Word} (hf : f ≠ 0) (hm : m ≠ 0) (t : Word) :
    normPcnt f t m = BitVec.ofNat 32 (t.toNat / (m.toNat * litNat f)) := by
  rw [← toNat_normPcnt hf hm, BitVec.ofNat_toNat, BitVec.setWidth_eq]

/-- No pass is made exactly if the quotient is 0 (R135). -/
theorem normPcnt_eq_zero_iff {f : FrameWord} {m : Word} (hf : f ≠ 0) (hm : m ≠ 0) (t : Word) :
    normPcnt f t m = 0 ↔ t.toNat / (m.toNat * litNat f) = 0 := by
  rw [← toNat_normPcnt hf hm, ← BitVec.toNat_inj]
  rfl

/-- S_NORM on the dark frame (R135). -/
theorem State.normalize_of_dark {s : State} (hf : s.frame = 0) :
    s.normalize = { s with lit := 0, pdur := 0, pcnt := 0, pass := 0, row := 0, col := 0, st := .dark } := by
  have hl : litcount s.frame = 0 := (litcount_eq_zero_iff _).mpr hf
  rw [State.normalize, normPdur, normPcnt, normNext, if_pos hl, if_pos hl, if_pos hl, hl]

/-- S_NORM on a lit frame, whatever `MINP` (R135). -/
theorem State.normalize_of_lit {s : State} (hf : s.frame ≠ 0) :
    s.normalize = { s with lit := BitVec.ofNat 5 (litNat s.frame),
                           pdur := BitVec.ofNat 36 (s.minp.toNat * litNat s.frame),
                           pcnt := normPcnt s.frame s.total s.minp, pass := 0, row := 0, col := 0,
                           st := if normPcnt s.frame s.total s.minp = 0 then .done else .rowEn } := by
  rw [State.normalize, normPdur_of_lit hf, normNext, if_neg (mt (litcount_eq_zero_iff _).mp hf), litcount]

/-- S_NORM without a pending wait is its writes (R135, R150). -/
theorem exec_sNorm_of_free {s : State} (hw : s.wpend = false) : exec .sNorm s = .next s.normalize :=
  congrArg Host.Outcome.next (State.whenFree_of_free hw State.normalize)

end Sys2Proof.Machine

section
open Sys2Proof Sys2Proof.Machine

/-- Settles O18: the five bits hold the count, which is the sum of the bits. -/
theorem litcountAddsTheCells : Obligations.LitcountAddsTheCells := by
  intro f
  rw [toNat_litcount]
  exact ⟨litNat_eq_sum_bits f, litNat_le f, litNat_eq_zero_iff f⟩

/-- Settles O19: each result is below the end of its register. -/
theorem normalizerFunctionsAreExact : Obligations.NormalizerFunctionsAreExact := by
  refine ⟨fun m l hl => ?_, fun t d hd => ?_, fun fps hfps => ?_⟩
  · exact toNat_passdur m hl
  · exact toNat_passcnt t hd
  · exact toNat_budget hfps

/-- Settles O20: the law of the floor quotient, for a divisor that is not 0. -/
theorem passesFitTheBudget : Obligations.PassesFitTheBudget := by
  intro f t m hf hm
  have hpos := passdur_pos hf hm
  dsimp only
  rw [toNat_passdur_litcount, toNat_passcnt_litcount hf hm]
  refine ⟨hpos, Nat.div_mul_le_self _ _, ?_⟩
  rw [Nat.mul_comm]
  exact Nat.lt_mul_div_succ _ hpos

/-- Settles O21: the writes of S_NORM; the pass count is the one that it forms, with `MINP = 0` the free one (log 9). -/
theorem normalizeResult : Obligations.NormalizeResult := by
  intro s hw
  rw [exec_sNorm_of_free hw]
  refine ⟨fun hf => ?_, fun hf => ⟨normPcnt s.frame s.total s.minp, fun hm => toNat_normPcnt hf hm _, ?_⟩⟩
  · rw [State.normalize_of_dark hf]
  · rw [State.normalize_of_lit hf]

end

/-! PROOF. Counting the events of a render in closed form: its length, its line operations and its nominal time (R136,
R167). -/

namespace Sys2Proof.Machine

/-! ### The weight of a pass -/

/-- How many cells of row `r` are lit (R82). -/
def litRow (f : FrameWord) (r : LineIdx) : Nat :=
  (cellLit f r 0).toNat + (cellLit f r 1).toNat + (cellLit f r 2).toNat + (cellLit f r 3).toNat

/-- The lit cells of a frame are those of its four rows (R82, R130). -/
theorem litNat_eq_sum_rows (f : FrameWord) : litNat f = litRow f 0 + litRow f 1 + litRow f 2 + litRow f 3 := by
  simp [litNat_eq_sum_bits, litRow, cellLit_eq, Nat.add_assoc]

section
variable {μ : Event → Nat} {m : Word} {line cell : Nat} (f : FrameWord)

/-- An unlit cell adds nothing to a weight, a lit one the weight of its three events (R165). -/
theorem sum_map_cellOps (hcell : ∀ c, μ (.colAssert c) + μ (.waitUs m) + μ (.colDeassert c) = cell)
    (r c : LineIdx) : ((cellOps f m r c).map μ).sum = cell * (cellLit f r c).toNat := by
  have hc := hcell c
  unfold cellOps
  cases cellLit f r c with
  | false => simp
  | true =>
    simp
    omega

/-- A row adds the weight of its two line operations and of its lit cells (R165). -/
theorem sum_map_rowOps (hline : ∀ r, μ (.rowAssert r) + μ (.rowDeassert r) = line)
    (hcell : ∀ c, μ (.colAssert c) + μ (.waitUs m) + μ (.colDeassert c) = cell) (r : LineIdx) :
    ((rowOps f m r).map μ).sum = line + cell * litRow f r := by
  have hr := hline r
  simp only [rowOps, litRow, List.map_append, List.sum_append, sum_map_cellOps f hcell, List.map_cons, List.map_nil,
    List.sum_cons, List.sum_nil, Nat.mul_add]
  omega

/-- A pass adds the weight of its four rows (R165). -/
theorem sum_map_passOps (hline : ∀ r, μ (.rowAssert r) + μ (.rowDeassert r) = line)
    (hcell : ∀ c, μ (.colAssert c) + μ (.waitUs m) + μ (.colDeassert c) = cell) :
    ((passOps f m).map μ).sum = 4 * line + cell * litNat f := by
  simp only [passOps, litNat_eq_sum_rows, List.map_append, List.sum_append, sum_map_rowOps f hline hcell, Nat.mul_add]
  omega

end

/-- A weight of a list repeated. -/
theorem sum_map_flatten_replicate (μ : Event → Nat) (n : Nat) (es : List Event) :
    (((List.replicate n es).flatten).map μ).sum = n * (es.map μ).sum := by
  simp [List.map_flatten, List.sum_flatten]

/-! ### The three weights -/

/-- How many line operations a list of events holds (R167). -/
def lineOps (es : List Event) : Nat := (es.filter isLineEvent).length

theorem lineOps_append (es fs : List Event) : lineOps (es ++ fs) = lineOps es + lineOps fs := by
  simp [lineOps]

/-- A line operation counts for one (R167). -/
theorem lineOps_line {e : Event} (h : isLineEvent e = true) : lineOps [e] = 1 := by
  simp [lineOps, h]

theorem lineOps_eq_sum (es : List Event) : lineOps es = (es.map fun e => (isLineEvent e).toNat).sum := by
  induction es with
  | nil => rfl
  | cons e es ih =>
    rw [List.map_cons, List.sum_cons, ← ih]
    cases h : isLineEvent e <;> simp [lineOps, h, Nat.add_comm]

theorem length_eq_sum (es : List Event) : es.length = (es.map fun _ => 1).sum := by simp

/-- A pass takes `8 + 3*l` micro-operations (R167). -/
theorem length_passOps (f : FrameWord) (m : Word) : (passOps f m).length = 8 + 3 * litNat f := by
  rw [length_eq_sum]
  exact sum_map_passOps (line := 2) (cell := 3) f (fun _ => rfl) fun _ => rfl

/-- A pass takes `8 + 2*l` line operations (R167). -/
theorem lineOps_passOps (f : FrameWord) (m : Word) : lineOps (passOps f m) = 8 + 2 * litNat f := by
  rw [lineOps_eq_sum]
  exact sum_map_passOps (line := 2) (cell := 2) f (fun _ => rfl) fun _ => rfl

/-- The waits of a pass sum to the pass duration (R131). -/
theorem nominalMicros_passOps (f : FrameWord) (m : Word) : nominalMicros (passOps f m) = m.toNat * litNat f :=
  (sum_map_passOps (line := 0) (cell := m.toNat) f (fun _ => rfl) fun _ => by simp [eventMicros]).trans (Nat.zero_add _)

/-! ### The closed form of a lit render (R165) -/

theorem renderOps_of_lit {f : FrameWord} (hf : f ≠ 0) (t m : Word) :
    renderOps f t m = (List.replicate (t.toNat / (m.toNat * litNat f)) (passOps f m)).flatten := by
  rw [renderOps, if_neg (litNat_pos hf).ne']

theorem renderOps_zero (t m : Word) : renderOps 0 t m = [.waitUs t] := by
  rw [renderOps, if_pos ((litNat_eq_zero_iff 0).mpr rfl)]

theorem length_renderOps {f : FrameWord} (hf : f ≠ 0) (t m : Word) :
    (renderOps f t m).length = t.toNat / (m.toNat * litNat f) * (8 + 3 * litNat f) := by
  rw [renderOps_of_lit hf, length_eq_sum, sum_map_flatten_replicate, ← length_eq_sum, length_passOps]

theorem lineOps_renderOps {f : FrameWord} (hf : f ≠ 0) (t m : Word) :
    lineOps (renderOps f t m) = t.toNat / (m.toNat * litNat f) * (8 + 2 * litNat f) := by
  rw [renderOps_of_lit hf, lineOps_eq_sum, sum_map_flatten_replicate, ← lineOps_eq_sum, lineOps_passOps]

/-- The line operations of the closed form are as many as R167 says. -/
theorem lineOpCount_of_lit {f : FrameWord} (hf : f ≠ 0) (t m : Word) :
    lineOpCount f t m = t.toNat / (m.toNat * litNat f) * (8 + 2 * litNat f) := by
  rw [lineOpCount, if_neg (litNat_pos hf).ne']

/-- The waits of a lit render sum to `PCNT * PDUR` (R136). -/
theorem nominalMicros_renderOps {f : FrameWord} (hf : f ≠ 0) (t m : Word) :
    nominalMicros (renderOps f t m) = t.toNat / (m.toNat * litNat f) * (m.toNat * litNat f) := by
  rw [renderOps_of_lit hf, nominalMicros, sum_map_flatten_replicate, ← nominalMicros, nominalMicros_passOps]

end Sys2Proof.Machine

/-! PROOF. A render in which no line operation fails, from S_NORM to S_DONE: of the dark frame (O33) and of a lit one
(O34, O36). -/

namespace Sys2Proof.Machine

/-! ### Reaching a state by the enabled steps of a render -/

/-- `t` is reached from `s` by enabled steps of the render (R150). -/
def State.Reaches (s t : State) : Prop := ∃ k, State.renderSteps k s = t

theorem State.reaches_refl (s : State) : s.Reaches s := ⟨0, rfl⟩

theorem State.Reaches.trans {s t u : State} (h : s.Reaches t) (h' : t.Reaches u) : s.Reaches u := by
  obtain ⟨j, rfl⟩ := h
  obtain ⟨k, rfl⟩ := h'
  exact ⟨j + k, State.renderSteps_add j k s⟩

theorem State.reaches_renderStep {s : State} (h : s.renderOver = false) : s.Reaches s.renderStep :=
  ⟨1, by simp [State.renderSteps, h]⟩

/-- The end of a render that its enabled steps reach after S_NORM is what executing the frame word gives: the bound on
the steps is enough (R167, R182, R183). -/
theorem State.runFrame_of_reaches {s t : State} {f : FrameWord} (hw : s.wpend = false)
    (h : (State.normalize { s with frame := f, st := .norm }).Reaches t) (ht : t.renderOver = true) :
    s.runFrame f = t := by
  have hover := State.renderOver_runFrame f hw
  rw [State.runFrame_of_free hw] at hover ⊢
  obtain ⟨j, hj⟩ := h
  rw [← State.renderSteps_over hover j, ← State.renderSteps_add, Nat.add_comm, State.renderSteps_add, hj,
    State.renderSteps_over ht]

/-! ### The answers of the drive lines -/

/-- The next line operations, as many as `es` holds, succeed (R118; log 4). -/
def State.AnswersOk (s : State) (es : List Event) : Prop :=
  ∃ rest, s.answers = List.replicate (lineOps es) false ++ rest

theorem State.AnswersOk.left {s : State} {es fs : List Event} (h : s.AnswersOk (es ++ fs)) : s.AnswersOk es := by
  obtain ⟨rest, hr⟩ := h
  exact ⟨List.replicate (lineOps fs) false ++ rest, by rw [hr, lineOps_append, ← List.replicate_append_replicate,
    List.append_assoc]⟩

/-- The answer to a line operation after the events `es`. -/
theorem State.AnswersOk.drop {s : State} {es : List Event} {e : Event} (h : s.AnswersOk (es ++ [e]))
    (he : isLineEvent e = true) :
    s.answers.drop (lineOps es) = false :: s.answers.drop (lineOps (es ++ [e])) := by
  obtain ⟨rest, hr⟩ := h
  rw [hr, List.drop_left' (List.length_replicate ..), lineOps_append, lineOps_line he, List.replicate_succ',
    List.append_assoc, List.drop_left' (List.length_replicate ..)]
  rfl

/-! ### The states of a render -/

/-- The block of `s` after the events `es` of a render in which no line operation has failed, at the place (`p`, `r`,
`c`) of the scan, in `st`, with no wait pending (R20, R36, R37). -/
def State.scan (s : State) (es : List Event) (p : Word) (r c : LineIdx) (st : St) : State :=
  { s with trace := s.trace ++ es, rowl := es.foldl rowsStep s.rowl, coll := es.foldl colsStep s.coll,
           answers := s.answers.drop (lineOps es), pass := p, row := r, col := c, st := st, wpend := false }

/-- A scan state moves on by its enabled step (R150). -/
theorem State.reaches_scan {s u : State} {es : List Event} {p : Word} {r c : LineIdx} {st : St}
    (hst : scanning st = true) (h : (s.scan es p r c st).renderStep = u) : (s.scan es p r c st).Reaches u := by
  rw [← h]
  refine State.reaches_renderStep ?_
  cases st <;> simp_all [scanning, State.renderOver, State.scan]

section
variable {s : State} {es : List Event} {p : Word} {r c : LineIdx}

/-! ### The steps of a pass -/

/-- A line operation that succeeds drives its line, appends its event and takes one answer, and nothing else
(R110 to R114). -/
theorem State.issueLine_scan (op : LineOp) (st : St) (h : s.AnswersOk (es ++ [lineEvent op])) (k : State → State) :
    State.issueLine op k (s.scan es p r c st) = k (s.scan (es ++ [lineEvent op]) p r c st) := by
  have hd := h.drop (by cases op <;> rfl)
  rw [State.issueLine_of_ok (by simp [State.lineAnswer, State.scan, hd])]
  congr 1
  simp only [State.scan, State.record, State.answered, hd, List.foldl_append, List.append_assoc]
  cases op <;> rfl

/-- S_ROW_EN (R154). -/
theorem State.reaches_rowEn (h : s.AnswersOk (es ++ [.rowAssert r])) :
    (s.scan es p r c .rowEn).Reaches (s.scan (es ++ [.rowAssert r]) p r 0 .cell) :=
  State.reaches_scan rfl (State.issueLine_scan (.rowAs r) .rowEn h fun t => { t with col := 0, st := .cell })

/-- S_CELL passes an unlit cell (R155). -/
theorem State.reaches_cell_of_unlit (h : cellLit s.frame r c = false) :
    (s.scan es p r c .cell).Reaches (s.scan es p r c .cell).nextColumn :=
  State.reaches_scan rfl (by simp [State.renderStep, State.cellStep, State.whenFree, State.nextColumn, State.scan, h])

/-- S_CELL finds a lit cell (R155). -/
theorem State.reaches_cell_of_lit (h : cellLit s.frame r c = true) :
    (s.scan es p r c .cell).Reaches (s.scan es p r c .colOn) :=
  State.reaches_scan rfl (by simp [State.renderStep, State.cellStep, State.whenFree, State.scan, h])

/-- S_COL_ON (R156). -/
theorem State.reaches_colOn (h : s.AnswersOk (es ++ [.colAssert c])) :
    (s.scan es p r c .colOn).Reaches (s.scan (es ++ [.colAssert c]) p r c .pulse) :=
  State.reaches_scan rfl (State.issueLine_scan (.colAs c) .colOn h fun t => { t with st := .pulse })

/-- S_PULSE: the wait and its completion (R157, R158). -/
theorem State.reaches_pulse (s : State) (es : List Event) (p : Word) (r c : LineIdx) :
    (s.scan es p r c .pulse).Reaches (s.scan (es ++ [.waitUs s.minp]) p r c .colOff) := by
  have hissue : (s.scan es p r c .pulse).renderStep =
      { s.scan (es ++ [.waitUs s.minp]) p r c .pulse with wpend := true } := by
    have hnone : lineOps [.waitUs s.minp] = 0 := rfl
    simp only [State.scan, List.foldl_append, lineOps_append, hnone, ← List.append_assoc]
    rfl
  exact (State.reaches_scan rfl hissue).trans (State.reaches_renderStep rfl)

/-- S_COL_OFF (R159). -/
theorem State.reaches_colOff (h : s.AnswersOk (es ++ [.colDeassert c])) :
    (s.scan es p r c .colOff).Reaches (s.scan (es ++ [.colDeassert c]) p r c .cell).nextColumn :=
  State.reaches_scan rfl (State.issueLine_scan (.colDe c) .colOff h State.nextColumn)

/-- S_ROW_DIS (R160). -/
theorem State.reaches_rowDis (h : s.AnswersOk (es ++ [.rowDeassert r])) :
    (s.scan es p r c .rowDis).Reaches (s.scan (es ++ [.rowDeassert r]) p r c .rowDis).nextRow :=
  State.reaches_scan rfl (State.issueLine_scan (.rowDe r) .rowDis h State.nextRow)

/-! ### Cells, rows and passes (R165) -/

/-- A cell, lit or not: its events are issued, and the scan is past its column (R155 to R159). -/
theorem State.reaches_past_cell (h : s.AnswersOk (es ++ cellOps s.frame s.minp r c)) :
    (s.scan es p r c .cell).Reaches (s.scan (es ++ cellOps s.frame s.minp r c) p r c .cell).nextColumn := by
  cases hl : cellLit s.frame r c with
  | false => simpa [cellOps, hl] using State.reaches_cell_of_unlit hl
  | true =>
    have hops : es ++ cellOps s.frame s.minp r c = es ++ [.colAssert c] ++ [.waitUs s.minp] ++ [.colDeassert c] := by
      simp [cellOps, hl]
    rw [hops] at h ⊢
    exact (State.reaches_cell_of_lit hl).trans <| (State.reaches_colOn h.left.left).trans <|
      (State.reaches_pulse s _ p r c).trans <| State.reaches_colOff h

/-- A cell that is not the last of its row (R155, R159). -/
theorem State.reaches_next_cell (hc : c ≠ 3) (h : s.AnswersOk (es ++ cellOps s.frame s.minp r c)) :
    (s.scan es p r c .cell).Reaches (s.scan (es ++ cellOps s.frame s.minp r c) p r (c + 1) .cell) := by
  have hnext : (s.scan (es ++ cellOps s.frame s.minp r c) p r c .cell).nextColumn =
      s.scan (es ++ cellOps s.frame s.minp r c) p r (c + 1) .cell := if_neg hc
  exact hnext ▸ State.reaches_past_cell h

/-- The last cell of a row (R155, R159). -/
theorem State.reaches_row_end (h : s.AnswersOk (es ++ cellOps s.frame s.minp r 3)) :
    (s.scan es p r 3 .cell).Reaches (s.scan (es ++ cellOps s.frame s.minp r 3) p r 3 .rowDis) :=
  State.reaches_past_cell h

/-- A row: its line, its four cells, its line again (R154 to R160). -/
theorem State.reaches_past_row (h : s.AnswersOk (es ++ rowOps s.frame s.minp r)) :
    (s.scan es p r c .rowEn).Reaches (s.scan (es ++ rowOps s.frame s.minp r) p r 3 .rowDis).nextRow := by
  simp only [rowOps, ← List.append_assoc] at h ⊢
  have h3 := h.left
  have h2 := h3.left
  have h1 := h2.left
  have h0 := h1.left
  exact (State.reaches_rowEn h0.left).trans <| (State.reaches_next_cell (by decide) h0).trans <|
    (State.reaches_next_cell (by decide) h1).trans <| (State.reaches_next_cell (by decide) h2).trans <|
    (State.reaches_row_end h3).trans <| State.reaches_rowDis h

/-- A row that is not the last of its pass (R160). -/
theorem State.reaches_next_row (hr : r ≠ 3) (h : s.AnswersOk (es ++ rowOps s.frame s.minp r)) :
    (s.scan es p r c .rowEn).Reaches (s.scan (es ++ rowOps s.frame s.minp r) p (r + 1) 3 .rowEn) := by
  have hnext : (s.scan (es ++ rowOps s.frame s.minp r) p r 3 .rowDis).nextRow =
      s.scan (es ++ rowOps s.frame s.minp r) p (r + 1) 3 .rowEn := if_neg hr
  exact hnext ▸ State.reaches_past_row h

/-- A pass: its four rows (R165). -/
theorem State.reaches_past_pass (h : s.AnswersOk (es ++ passOps s.frame s.minp)) :
    (s.scan es p 0 c .rowEn).Reaches (s.scan (es ++ passOps s.frame s.minp) p 3 3 .rowDis).nextRow := by
  simp only [passOps, ← List.append_assoc] at h ⊢
  have h2 := h.left
  have h1 := h2.left
  exact (State.reaches_next_row (by decide) h1.left).trans <| (State.reaches_next_row (by decide) h1).trans <|
    (State.reaches_next_row (by decide) h2).trans <| State.reaches_past_row h

/-- After the last row of the last pass the render ends with all its passes counted (R160). -/
theorem State.nextRow_scan_of_last (hp : p.toNat + 1 = s.pcnt.toNat) :
    (s.scan es p 3 c .rowDis).nextRow = s.scan es s.pcnt 3 c .done := by
  have hlt := s.pcnt.isLt
  have hs : passSucc p = s.pcnt := by
    rw [passSucc_of_lt (by omega)]
    exact BitVec.eq_of_toNat_eq (by simp; omega)
  simp [State.nextRow, State.scan, hp, hs]

/-- After the last row of another pass the next one begins (R160). -/
theorem State.nextRow_scan_of_lt (hp : p.toNat + 1 < s.pcnt.toNat) :
    (s.scan es p 3 c .rowDis).nextRow = s.scan es (p + 1) 0 c .rowEn := by
  have hlt := s.pcnt.isLt
  have hs : passSucc p = p + 1 := passSucc_of_lt (by omega)
  simp [State.nextRow, State.scan, hp.ne, hs]

end

/-- The passes still to be made, by induction on how many follow the present one (R165). -/
theorem State.reaches_done {s : State} (k : Nat) {es : List Event} {p : Word} {c : LineIdx}
    (hp : p.toNat + 1 + k = s.pcnt.toNat)
    (h : s.AnswersOk (es ++ (List.replicate (k + 1) (passOps s.frame s.minp)).flatten)) :
    (s.scan es p 0 c .rowEn).Reaches
      (s.scan (es ++ (List.replicate (k + 1) (passOps s.frame s.minp)).flatten) s.pcnt 3 3 .done) := by
  induction k generalizing es p c with
  | zero =>
    simp only [List.replicate_one, List.flatten_cons, List.flatten_nil, List.append_nil, Nat.zero_add] at h ⊢
    rw [← State.nextRow_scan_of_last hp]
    exact State.reaches_past_pass h
  | succ k ih =>
    rw [List.replicate_succ, List.flatten_cons, ← List.append_assoc] at h ⊢
    have hlt := s.pcnt.isLt
    have hstep := State.reaches_past_pass (p := p) (c := c) h.left
    rw [State.nextRow_scan_of_lt (by omega)] at hstep
    exact hstep.trans (ih (by rw [BitVec.toNat_add_of_lt (by simp; omega)]; simp; omega) h)

/-! ### The whole render -/

/-- A scan state with no event yet is the state itself (R135). -/
theorem State.scan_nil {s : State} (hw : s.wpend = false) : s.scan [] s.pass s.row s.col s.st = s := by
  rw [State.scan, ← hw]
  simp [lineOps]

/-- The index of the last line driven, `ROW` and `COL` at the end of a render of `n` passes (R183). -/
def lastLine (n : Word) : LineIdx := if n = 0 then 0 else 3

/-- FRAME.LIT is the render of its word (R183; log 8). -/
theorem exec_frameLit (f : FrameWord) (s : State) : exec (.frameLit f) s = .next (s.runFrame f) := rfl

/-- From S_NORM on a lit frame the render makes its `PCNT` passes, which may be none, and ends (R135, R165). -/
theorem State.reaches_end {s : State} (hw : s.wpend = false) (hpass : s.pass = 0) (hrow : s.row = 0) (hcol : s.col = 0)
    (hst : s.st = if s.pcnt = 0 then .done else .rowEn)
    (ha : s.AnswersOk (List.replicate s.pcnt.toNat (passOps s.frame s.minp)).flatten) :
    s.Reaches (s.scan (List.replicate s.pcnt.toNat (passOps s.frame s.minp)).flatten s.pcnt (lastLine s.pcnt)
      (lastLine s.pcnt) .done) := by
  have hnil := State.scan_nil hw
  rw [hpass, hrow, hcol, hst] at hnil
  by_cases h0 : s.pcnt = 0
  · rw [if_pos h0] at hnil
    rw [h0, lastLine, if_pos rfl]
    change s.Reaches (s.scan [] 0 0 0 .done)
    rw [hnil]
    exact s.reaches_refl
  · rw [if_neg h0] at hnil
    obtain ⟨k, hk⟩ := Nat.exists_eq_succ_of_ne_zero fun h => h0 (BitVec.eq_of_toNat_eq h)
    rw [hk] at ha ⊢
    have hdone := State.reaches_done (es := []) (p := 0) (c := 0) k (by rw [hk]; simp; omega) ha
    rw [hnil] at hdone
    rwa [lastLine, if_neg h0]

/-- FRAME.DARK: S_NORM, the wait and its completion (R152, R153, R182). -/
theorem State.runFrame_zero {s : State} (hw : s.wpend = false) :
    s.runFrame 0 =
      { s with frame := 0, lit := 0, pdur := 0, pcnt := 0, pass := 0, row := 0, col := 0, st := .done,
               trace := s.trace ++ [.waitUs s.total] } := by
  have hissue : (State.normalize { s with frame := 0, st := .norm }).renderStep =
      { s with frame := 0, lit := 0, pdur := 0, pcnt := 0, pass := 0, row := 0, col := 0, st := .dark,
               trace := s.trace ++ [.waitUs s.total], wpend := true } := by
    rw [State.normalize_of_dark rfl]
    simp [State.renderStep, State.darkStep, State.issueWait, State.record, hw]
  have hfirst := State.reaches_renderStep (s := State.normalize { s with frame := 0, st := .norm })
    (by rw [State.normalize_of_dark rfl]; rfl)
  rw [hissue] at hfirst
  refine State.runFrame_of_reaches hw (hfirst.trans ⟨1, ?_⟩) rfl
  simp [State.renderSteps, State.renderOver, State.renderStep, State.completeWait, State.completeDark, hw]

/-- FRAME.LIT, from every state of the lines, no line operation failing (R165, R183): the closed form is appended, each
of its line operations drives its line and takes one answer. -/
theorem State.runFrame_of_lit {f : FrameWord} {s : State} {rest : List Bool} (hf : f ≠ 0) (hm : s.minp ≠ 0)
    (hw : s.wpend = false) (ha : s.answers = List.replicate (lineOpCount f s.total s.minp) false ++ rest) :
    s.runFrame f =
      { s with frame := f, lit := BitVec.ofNat 5 (litNat f), pdur := BitVec.ofNat 36 (s.minp.toNat * litNat f),
               pcnt := normPcnt f s.total s.minp, pass := normPcnt f s.total s.minp,
               row := lastLine (normPcnt f s.total s.minp), col := lastLine (normPcnt f s.total s.minp), st := .done,
               trace := s.trace ++ renderOps f s.total s.minp,
               rowl := (renderOps f s.total s.minp).foldl rowsStep s.rowl,
               coll := (renderOps f s.total s.minp).foldl colsStep s.coll, answers := rest } := by
  have hlen : lineOps (renderOps f s.total s.minp) = lineOpCount f s.total s.minp := by
    rw [lineOps_renderOps hf, lineOpCount_of_lit hf]
  have hrest : s.answers.drop (lineOps (renderOps f s.total s.minp)) = rest := by
    rw [ha, hlen, List.drop_left' (List.length_replicate ..)]
  have hok : s.AnswersOk (renderOps f s.total s.minp) := ⟨rest, hlen ▸ ha⟩
  have hnorm := State.normalize_of_lit (s := { s with frame := f, st := .norm }) hf
  have hend := State.reaches_end (s := State.normalize { s with frame := f, st := .norm }) hw rfl rfl rfl
    (by rw [hnorm])
  simp only [hnorm, toNat_normPcnt hf hm, ← renderOps_of_lit hf] at hend
  refine State.runFrame_of_reaches hw ?_ rfl
  rw [hnorm, ← hrest]
  simpa [State.scan, hw] using hend hok

/-! ### The lines after a render (R166) -/

/-- A line that was off, set and cleared again, is off (R111 to R114). -/
theorem lineBit_set_cleared (i : LineIdx) : ((0 : Lines) ||| lineBit i) &&& ~~~lineBit i = 0 := by
  revert i
  decide

/-- A cell does not touch the row lines (R165). -/
theorem foldl_rowsStep_cellOps (f : FrameWord) (m : Word) (r c : LineIdx) (l : Lines) :
    (cellOps f m r c).foldl rowsStep l = l := by
  unfold cellOps
  split <;> rfl

/-- A cell leaves the column lines off (R165). -/
theorem foldl_colsStep_cellOps (f : FrameWord) (m : Word) (r c : LineIdx) : (cellOps f m r c).foldl colsStep 0 = 0 := by
  unfold cellOps
  split
  · exact lineBit_set_cleared c
  · rfl

/-- A row leaves the row lines and the column lines off (R165). -/
theorem foldl_rowOps (f : FrameWord) (m : Word) (r : LineIdx) :
    (rowOps f m r).foldl rowsStep 0 = 0 ∧ (rowOps f m r).foldl colsStep 0 = 0 := by
  simp only [rowOps, List.foldl_append, foldl_rowsStep_cellOps, List.foldl_cons, List.foldl_nil]
  have hrow : ∀ l : Lines, colsStep l (.rowAssert r) = l ∧ colsStep l (.rowDeassert r) = l := fun _ => ⟨rfl, rfl⟩
  refine ⟨lineBit_set_cleared r, ?_⟩
  simp only [hrow, foldl_colsStep_cellOps]

/-- Passes leave the row lines and the column lines off (R165, R166). -/
theorem foldl_passes (f : FrameWord) (m : Word) (n : Nat) :
    (List.replicate n (passOps f m)).flatten.foldl rowsStep 0 = 0 ∧
      (List.replicate n (passOps f m)).flatten.foldl colsStep 0 = 0 := by
  induction n with
  | zero => exact ⟨rfl, rfl⟩
  | succ n ih =>
    simpa only [List.replicate_succ, List.flatten_cons, passOps, List.foldl_append, foldl_rowOps] using ih

end Sys2Proof.Machine

section
open Sys2Proof Sys2Proof.Machine

/-- Settles O33: the render of the dark frame is S_NORM, the wait and its completion. -/
theorem darkFrameResult : Obligations.DarkFrameResult :=
  fun _ hw => congrArg Host.Outcome.next (State.runFrame_zero hw)

/-- Settles O34: the render from every state of the lines, whose events leave lines that are off as they are. -/
theorem litFrameResult : Obligations.LitFrameResult := by
  intro f s rest hf hm hw hrow hcol ha n
  obtain ⟨hrows, hcols⟩ := foldl_passes f s.minp n
  rw [← hrow] at hrows
  rw [← hcol] at hcols
  have hlast : lastLine (normPcnt f s.total s.minp) = if n = 0 then 0 else 3 :=
    if_congr (normPcnt_eq_zero_iff hf hm s.total) rfl rfl
  refine congrArg Host.Outcome.next ((State.runFrame_of_lit hf hm hw ha).trans ?_)
  rw [hlast, normPcnt_of_lit hf hm, renderOps_of_lit hf, hrows, hcols]

/-- Settles O36: every event of a pass has its weight in the length, the line operations and the waits, and the events
that the render appends are its closed form. -/
theorem renderCountsAndTruncation : Obligations.RenderCountsAndTruncation := by
  refine ⟨fun f t m hf _ => ⟨length_renderOps hf t m, ?_, renderOps_zero t m⟩, fun f s rest hf hm hw ha => ?_⟩
  · rw [nominalMicros_renderOps hf, Nat.div_mul_self_eq_mod_sub_self]
  intro n
  have hrun := State.runFrame_of_lit hf hm hw ha
  refine ⟨s.runFrame f, renderOps f s.total s.minp, exec_frameLit f s, ?_, ?_, ?_, ?_, ?_⟩
  · rw [hrun]
  · exact length_renderOps hf s.total s.minp
  · exact lineOps_renderOps hf s.total s.minp
  · rw [hrun, nominalMicros_renderOps hf, toNat_pdur_of_lit, toNat_normPcnt hf hm]
  · rw [nominalMicros_renderOps hf, Nat.div_mul_self_eq_mod_sub_self]

end

/-! PROOF. The steps of the scan as instructions (O22 to O29). -/

namespace Sys2Proof.Machine

/-! ### A line operation, by its result, whatever follows it (R110 to R114, R216) -/

/-- The state that a line operation which succeeds hands to what follows it. -/
theorem State.issueLine_eq_of_ok {s : State} (h : s.lineAnswer = false) (op : LineOp) (k : State → State) :
    s.issueLine op k = k ({ s.answered with trace := s.trace ++ [lineEvent op] }.drive op) :=
  State.issueLine_of_ok h op k

/-- A line operation that fails, field by field. -/
theorem State.issueLine_eq_of_fault {s : State} (h : s.lineAnswer = true) (op : LineOp) (k : State → State) :
    s.issueLine op k =
      { s.answered with trace := s.trace ++ [lineEvent op], st := .fault, fcause := .hardwareFault,
                        finfo := lineCode op, wpend := false } :=
  State.issueLine_of_fault h op k

/-! ### The steps of the scan, with no wait pending (R150) -/

section
variable {s : State} (hw : s.wpend = false)
include hw

/-- S_ROW_EN (R154). -/
theorem exec_sRowEn_of_free :
    exec .sRowEn s = .next (s.issueLine (.rowAs s.row) fun t => { t with col := 0, st := .cell }) :=
  congrArg Host.Outcome.next (State.whenFree_of_free hw _)

/-- S_CELL (R155). -/
theorem exec_sCell_of_free :
    exec .sCell s = .next (if cellLit s.frame s.row s.col then { s with st := .colOn }
      else if s.col = 3 then { s with st := .rowDis } else { s with col := s.col + 1 }) :=
  congrArg Host.Outcome.next (State.whenFree_of_free hw _)

/-- S_COL_ON (R156). -/
theorem exec_sColOn_of_free :
    exec .sColOn s = .next (s.issueLine (.colAs s.col) fun t => { t with st := .pulse }) :=
  congrArg Host.Outcome.next (State.whenFree_of_free hw _)

/-- S_COL_OFF (R159). -/
theorem exec_sColOff_of_free : exec .sColOff s = .next (s.issueLine (.colDe s.col) State.nextColumn) :=
  congrArg Host.Outcome.next (State.whenFree_of_free hw _)

/-- S_ROW_DIS (R160). -/
theorem exec_sRowDis_of_free : exec .sRowDis s = .next (s.issueLine (.rowDe s.row) State.nextRow) :=
  congrArg Host.Outcome.next (State.whenFree_of_free hw _)

/-- S_DONE of a one-shot render (R161). -/
theorem exec_sDone_of_oneShot (hm : s.mode = .oneShot) :
    exec .sDone s = .next { s with done := true, st := .idle } := by
  refine congrArg Host.Outcome.next ((State.whenFree_of_free hw _).trans ?_)
  split
  next => rfl
  next hplay => cases hm.symm.trans hplay

end

/-! ### Past a column, past a row (R159, R160) -/

/-- Past a column, written as one update (R159). -/
theorem State.nextColumn_eq (s : State) :
    s.nextColumn = { s with col := if s.col = 3 then s.col else s.col + 1,
                            st := if s.col = 3 then .rowDis else .cell } := by
  unfold State.nextColumn
  split <;> rfl

/-- Past a row that is not the last of its pass (R160). -/
theorem State.nextRow_of_ne {s : State} (hr : s.row ≠ 3) :
    s.nextRow = { s with row := s.row + 1, st := .rowEn } := if_neg hr

/-- The counter as a number, below its register's end (R35). -/
theorem toNat_passSucc_of_lt {p : Word} (h : p.toNat + 1 < 2 ^ 32) : (passSucc p).toNat = p.toNat + 1 := by
  rw [passSucc_of_lt h, BitVec.toNat_add_of_lt h]
  rfl

/-- The pass counter reaches `PCNT` by counting up (R35, R160). -/
theorem passSucc_eq_of_last {p n : Word} (h : p.toNat + 1 = n.toNat) : passSucc p = n :=
  BitVec.eq_of_toNat_eq ((toNat_passSucc_of_lt (h.trans_lt n.isLt)).trans h)

/-- Past the last row of the last pass (R160). -/
theorem State.nextRow_of_last {s : State} (hr : s.row = 3) (hp : s.pass.toNat + 1 = s.pcnt.toNat) :
    s.nextRow = { s with pass := s.pcnt, st := .done } := by
  rw [State.nextRow, if_pos hr, if_pos hp, passSucc_eq_of_last hp]

/-- Past the last row of another pass (R160). -/
theorem State.nextRow_of_more {s : State} (hr : s.row = 3) (hp : s.pass.toNat + 1 ≠ s.pcnt.toNat) :
    s.nextRow = { s with pass := passSucc s.pass, row := 0, st := .rowEn } := by
  rw [State.nextRow, if_pos hr, if_neg hp]

end Sys2Proof.Machine

section
open Sys2Proof Sys2Proof.Machine

/-- Settles O22: both steps are the state as it is. -/
theorem idleAndFaultChangeNothing : Obligations.IdleAndFaultChangeNothing :=
  fun _ => ⟨rfl, rfl⟩

/-- Settles O23: each of the two states issues its wait, or with the wait pending takes its completion. -/
theorem waitsIssuedAndCompleted : Obligations.WaitsIssuedAndCompleted := by
  intro s
  refine ⟨fun hw => ?_, fun hw => ?_, fun hw => ?_, fun hw => ?_⟩
  · exact congrArg Host.Outcome.next (if_neg (by simp [hw]))
  · exact congrArg Host.Outcome.next (if_pos hw)
  · exact congrArg Host.Outcome.next (if_neg (by simp [hw]))
  · exact congrArg Host.Outcome.next (if_pos hw)

/-- Settles O24: ROW.AS of row `ROW`, then column 0. -/
theorem rowEnabled : Obligations.RowEnabled := by
  intro s hw
  obtain ⟨-, hcode, -, -⟩ := lineCode_eq_add s.row
  rw [exec_sRowEn_of_free hw, ← hcode]
  exact ⟨fun ha => congrArg _ (State.issueLine_eq_of_ok ha _ _),
    fun ha => congrArg _ (State.issueLine_eq_of_fault ha _ _)⟩

/-- Settles O25: the cell under (`ROW`, `COL`) is the bit of the statement. -/
theorem cellExamined : Obligations.CellExamined := by
  intro s hw
  rw [exec_sCell_of_free hw, ← cellLit_eq]
  refine ⟨fun hlit => ?_, fun hlit hc => ?_, fun hlit hc => ?_⟩
  · rw [if_pos hlit]
  · rw [hlit, if_neg Bool.false_ne_true, if_pos hc]
  · rw [hlit, if_neg Bool.false_ne_true, if_neg hc]

/-- Settles O26: COL.AS of column `COL`, then the pulse. -/
theorem columnAsserted : Obligations.ColumnAsserted := by
  intro s hw
  obtain ⟨-, -, -, hcode⟩ := lineCode_eq_add s.col
  rw [exec_sColOn_of_free hw, ← hcode]
  exact ⟨fun ha => congrArg _ (State.issueLine_eq_of_ok ha _ _),
    fun ha => congrArg _ (State.issueLine_eq_of_fault ha _ _)⟩

/-- Settles O27: COL.DE of column `COL`, then past it. -/
theorem columnDeasserted : Obligations.ColumnDeasserted := by
  intro s hw
  obtain ⟨-, -, hcode, -⟩ := lineCode_eq_add s.col
  rw [exec_sColOff_of_free hw, ← hcode]
  refine ⟨fun ha => ?_, fun ha => congrArg _ (State.issueLine_eq_of_fault ha _ _)⟩
  rw [State.issueLine_eq_of_ok ha, State.nextColumn_eq]
  rfl

/-- Settles O28: ROW.DE of row `ROW`, then past it; the pass count is the one that the step forms, past its register
the free one (log 10). -/
theorem rowDisabledAndPassCounted : Obligations.RowDisabledAndPassCounted := by
  intro s hw u
  obtain ⟨hcode, -, -, -⟩ := lineCode_eq_add s.row
  rw [exec_sRowDis_of_free hw, ← hcode]
  have hok : s.lineAnswer = false → s.issueLine (.rowDe s.row) State.nextRow = u.nextRow :=
    fun ha => State.issueLine_eq_of_ok ha _ _
  refine ⟨fun ha hr => ?_, fun ha hr hp => ?_, fun ha hr hp => ⟨passSucc s.pass, toNat_passSucc_of_lt, ?_⟩,
    fun ha => congrArg _ (State.issueLine_eq_of_fault ha _ _)⟩
  · exact congrArg _ ((hok ha).trans (State.nextRow_of_ne hr))
  · exact congrArg _ ((hok ha).trans (State.nextRow_of_last hr hp))
  · exact congrArg _ ((hok ha).trans (State.nextRow_of_more hr hp))

/-- Settles O29: the return of `MODE = 0`. -/
theorem oneShotReturns : Obligations.OneShotReturns :=
  fun _ hw hm => exec_sDone_of_oneShot hw hm

end

/-! PROOF. The render in closed form from every state of the lines (O35), and a one-shot render in single steps, from
the command to its return (O40). -/

namespace Sys2Proof.Machine

/-! ### A render without a failure, of any frame word (R165) -/

/-- What the whole render of `f` leaves of a state of which no line operation fails, the answers `rest` being those
after it (R161, R165): the render has ended, its closed form is appended, and what the render does not speak of is as
before. -/
structure State.RenderedTo (s : State) (f : FrameWord) (rest : List Bool) (t : State) : Prop where
  st : t.st = .done
  trace : t.trace = s.trace ++ renderOps f s.total s.minp
  answers : t.answers = rest
  wpend : t.wpend = false
  mode : t.mode = s.mode
  fp : t.fp = s.fp

/-- The render of the dark frame and of a lit one (R165, R182, R183). -/
theorem State.renderedTo_runFrame {f : FrameWord} {s : State} {rest : List Bool} (hm : s.minp ≠ 0)
    (hw : s.wpend = false) (ha : s.answers = List.replicate (lineOpCount f s.total s.minp) false ++ rest) :
    s.RenderedTo f rest (s.runFrame f) := by
  by_cases hf : f = 0
  · subst hf
    have hnone : lineOpCount 0 s.total s.minp = 0 := if_pos rfl
    rw [hnone] at ha
    rw [State.runFrame_zero hw]
    exact ⟨rfl, by rw [renderOps_zero], ha, hw, rfl, rfl⟩
  · rw [State.runFrame_of_lit hf hm hw ha]
    exact ⟨rfl, rfl, rfl, hw, rfl, rfl⟩

/-! ### Runs (R3) -/

/-- A run goes on from where its first steps end. -/
theorem run_add {M : Host.Core} {j : Nat} {s t : M.State} (h : M.run j s = .next t) (k : Nat) :
    M.run (j + k) s = M.run k t := by
  induction j generalizing s with
  | zero =>
    cases h
    rw [Nat.zero_add]
  | succ j ih =>
    rw [Nat.succ_add, Host.Core.run]
    rw [Host.Core.run] at h
    cases hs : M.step s with
    | next u =>
      rw [hs] at h
      exact ih h
    | fault r | refused r => simp [hs] at h

/-- A run of the machine whose first step is known goes on from there. -/
theorem run_succ {s t : State} (h : step s = .next t) (k : Nat) : core.run (k + 1) s = core.run k t :=
  run_succ_of_step (M := core) h k

/-- From S_NORM the block and the delay source run the render of the word in `FRAME` in single steps, from any count of
steps, whatever turns follow (R3, R150, R182, R183). -/
theorem run_runFrame {s : State} (hst : s.st = .norm) (hw : s.wpend = false) :
    ∃ ts, undisturbed ts ∧ ∀ (rest : List Turn) (n : Nat),
      core.run ts.length { s with turns := ts ++ rest, ticks := n } =
        .next { s.runFrame s.frame with turns := rest, ticks := n + ts.length } := by
  refine ⟨State.renderTurns (renderBound s.frame s.total s.minp) s, undisturbed_renderTurns _ s, fun rest n => ?_⟩
  rw [State.runFrame_self hst]
  exact run_renderTurns _ (State.rendering_norm hst hw) rest n

/-! ### The first and the last step of a one-shot render (R161, R201) -/

/-- RENDER taken with a pulse width (R201). -/
theorem exec_render_of_idle {s : State} (hst : s.st = .idle) (hm : s.minp ≠ 0) :
    exec .render s = .next { s with done := false, mode := .oneShot, st := .norm } :=
  congrArg Host.Outcome.next ((State.whenIdle_of_idle hst _).trans (if_neg hm))

/-- The host's write of `CTRL` with RENDER (R197, R201). -/
theorem step_render {s : State} {d : Word} {ts : List Turn} (ht : s.turns = .host (1#1 ++ 0#4 ++ d) :: ts)
    (hst : s.st = .idle) (hm : s.minp ≠ 0) (hd : decodeCmd d = .render) :
    step s = .next { s with done := false, mode := .oneShot, st := .norm, turns := ts, ticks := s.ticks + 1 } := by
  rw [step_of_turns ht, takeTurn, decodeAccess_write]
  refine (exec_csrWr_ctrl d _).trans ?_
  rw [hd]
  exact exec_render_of_idle hst hm

/-- The block's turn at the end of a one-shot render (R161). -/
theorem step_return {s : State} {ts : List Turn} (ht : s.turns = .block :: ts) (hst : s.st = .done)
    (hw : s.wpend = false) (hmode : s.mode = .oneShot) :
    step s = .next { s with done := true, st := .idle, turns := ts, ticks := s.ticks + 1 } := by
  rw [step_of_turns ht, takeTurn, blockTurn_eq, if_neg (by simp [hw]), hst]
  exact exec_sDone_of_oneShot hw hmode

end Sys2Proof.Machine

section
open Sys2Proof Sys2Proof.Machine

/-- Settles O35: the render of a dark frame and of a lit one. -/
theorem renderTraceInClosedForm : Obligations.RenderTraceInClosedForm := by
  intro f s rest hm hw ha
  have h := State.renderedTo_runFrame hm hw ha
  exact ⟨s.runFrame f, exec_decodeFrame f s, h.st, h.trace, h.answers⟩

/-- Settles O40: the write that takes RENDER, the single steps of the render from S_NORM to S_DONE, and the block's turn
that returns. -/
theorem oneShotRenderRunsAndReturns : Obligations.OneShotRenderRunsAndReturns := by
  intro s d rest ans hst hw hm hd ha
  have h : State.RenderedTo { s with done := false, mode := .oneShot, st := .norm } s.frame ans _ :=
    State.renderedTo_runFrame hm hw ha
  obtain ⟨ts, hts, hrun⟩ := run_runFrame (s := { s with done := false, mode := .oneShot, st := .norm }) rfl hw
  generalize State.runFrame s.frame { s with done := false, mode := .oneShot, st := .norm } = v at h hrun
  have hfirst := step_render (s := { s with turns := .host (1#1 ++ 0#4 ++ d) :: (ts ++ .block :: rest) }) rfl hst hm hd
  have hlast := step_return (s := { v with turns := .block :: rest, ticks := s.ticks + 1 + ts.length }) rfl h.st
    h.wpend h.mode
  refine ⟨ts ++ [.block], { v with done := true, st := .idle, turns := rest, ticks := s.ticks + 1 + ts.length + 1 },
    List.forall_mem_append.mpr ⟨hts, by simp⟩, ?_, rfl, rfl, h.mode, h.trace, h.fp, rfl, h.answers⟩
  rw [List.append_assoc, List.length_append]
  exact (run_succ hfirst _).trans ((run_add (hrun (.block :: rest) (s.ticks + 1)) 1).trans (run_succ hlast 0))

end

/-! PROOF. The commanded lines in every run from reset (O59), and that the FSM issues no redundant line operation
(O58). -/

namespace Sys2Proof.Machine

/-! ### Where the lines are in a state that meets the invariant (R166) -/

/-- The commanded lines of any state of the FSM: all off, row `ROW` alone, or with column `COL` on a lit cell. Those are
the lines that a fault may find. -/
theorem LinesInv.cases {s : State} (h : LinesInv s) :
    (s.rowl = 0 ∧ s.coll = 0) ∨ (s.rowl = lineBit s.row ∧ s.coll = 0) ∨
      (s.rowl = lineBit s.row ∧ s.coll = lineBit s.col ∧ cellLit s.frame s.row s.col = true) :=
  h.enterFault .none 0

/-- The only asserted line of a bank (R36, R37). -/
theorem eq_of_getLsbD_lineBit {i j : LineIdx} (h : (lineBit i).getLsbD j.toNat = true) : i = j := by
  rw [getLsbD_lineBit, decide_eq_true_eq] at h
  exact BitVec.eq_of_toNat_eq h

theorem atMostOne_zero : atMostOne 0 := fun i _ hi => by simp at hi

theorem atMostOne_lineBit (i : LineIdx) : atMostOne (lineBit i) :=
  fun _ _ hj hk => (eq_of_getLsbD_lineBit hj).symm.trans (eq_of_getLsbD_lineBit hk)

theorem lineBit_ne_zero (i : LineIdx) : lineBit i ≠ 0 := by
  revert i
  decide

/-- At most one row and one column, a column only with a row, and only a lit cell on (R166). -/
theorem LinesInv.oneLit {s : State} (h : LinesInv s) :
    atMostOne s.rowl ∧ atMostOne s.coll ∧ (s.coll ≠ 0 → s.rowl ≠ 0) ∧
      (∀ r c, s.ledOn r c = true → s.frame.getLsbD (4 * r.toNat + c.toNat) = true) := by
  rcases h.cases with ⟨hr, hc⟩ | ⟨hr, hc⟩ | ⟨hr, hc, hlit⟩
  · refine ⟨hr ▸ atMostOne_zero, hc ▸ atMostOne_zero, fun h => absurd hc h, fun r c hon => ?_⟩
    simp [State.ledOn, hc] at hon
  · refine ⟨hr ▸ atMostOne_lineBit _, hc ▸ atMostOne_zero, fun h => absurd hc h, fun r c hon => ?_⟩
    simp [State.ledOn, hc] at hon
  · refine ⟨hr ▸ atMostOne_lineBit _, hc ▸ atMostOne_lineBit _, fun _ => hr ▸ lineBit_ne_zero _, fun r c hon => ?_⟩
    rw [State.ledOn, hr, hc, Bool.and_eq_true] at hon
    obtain ⟨hrow, hcol⟩ := hon
    rw [← eq_of_getLsbD_lineBit hrow, ← eq_of_getLsbD_lineBit hcol, ← cellLit_eq, hlit]

/-- What a run reaches from a state that meets the invariant meets it. -/
theorem Invariant.of_run (k : Nat) {s t : State} (h : Invariant s) (ht : core.run k s = .next t) : Invariant t := by
  induction k generalizing s with
  | zero =>
    cases ht
    exact h
  | succ k ih =>
    obtain ⟨u, hu⟩ := invariantNeverStops s h
    rw [run_succ hu] at ht
    exact ih (everyStepKeepsTheInvariant s u h hu) ht

/-! ### What a step issues finds its line in the other state (R166) -/

/-- The event's operation is not redundant in `s`: its line is in the other state. A wait has no line (R117, R166). -/
def State.ChangedBy (s : State) : Event → Prop
  | .rowAssert i => s.rowl.getLsbD i.toNat = false
  | .rowDeassert i => s.rowl.getLsbD i.toNat = true
  | .colAssert i => s.coll.getLsbD i.toNat = false
  | .colDeassert i => s.coll.getLsbD i.toNat = true
  | .waitUs _ | .waitMs _ => True

/-- If `t` has one event more than `s`, that event is not redundant in `s`. -/
def State.IssuesChange (s t : State) : Prop := ∀ e, t.trace = s.trace ++ [e] → s.ChangedBy e

theorem State.issuesChange_of_trace {s t : State} (h : t.trace = s.trace) : s.IssuesChange t := by
  intro e he
  simp [h] at he

theorem State.issuesChange_of_event {s t : State} {e : Event} (h : t.trace = s.trace ++ [e]) (hc : s.ChangedBy e) :
    s.IssuesChange t := by
  intro e' he
  obtain rfl : e = e' := by simpa [h] using he
  exact hc

/-- A line operation issues its own event, whatever the drive line answers (R110). -/
theorem State.issueLine_trace (op : LineOp) {k : State → State} (hk : ∀ u, (k u).trace = u.trace) (s : State) :
    (s.issueLine op k).trace = s.trace ++ [lineEvent op] := by
  rcases s.issueLine_cases op k with ⟨-, heq⟩ | ⟨-, heq⟩ <;> simp [heq, hk]

theorem State.issuesChange_issueLine {s : State} {op : LineOp} {k : State → State} (hk : ∀ u, (k u).trace = u.trace)
    (hc : s.ChangedBy (lineEvent op)) : s.IssuesChange (s.issueLine op k) :=
  State.issuesChange_of_event (s.issueLine_trace op hk) hc

/-- The bit of a line in its own state (R36, R37). -/
theorem getLsbD_lineBit_self (i : LineIdx) : (lineBit i).getLsbD i.toNat = true := by
  simp [getLsbD_lineBit]

/-- The enabled step of a render: the line operation of each state finds the lines that the invariant says
(R154 to R160, R166). -/
theorem Invariant.issuesChange_renderStep {s : State} (h : Invariant s) (hw : s.wpend = false) :
    s.IssuesChange s.renderStep := by
  have hl := h.lines
  cases hst : s.st <;> simp only [State.renderStep, hw, hst, Bool.false_eq_true, if_false] <;>
    simp only [LinesInv, hst] at hl
  case idle | fetch | done | fault => exact State.issuesChange_of_trace rfl
  case norm =>
    rw [State.normStep, State.whenFree_of_free hw]
    exact State.issuesChange_of_trace s.normalize_trace
  case dark =>
    rw [State.darkStep, hw]
    exact State.issuesChange_of_event rfl trivial
  case rowEn =>
    obtain ⟨hr, -⟩ := hl
    rw [State.rowEnStep, State.whenFree_of_free hw]
    exact State.issuesChange_issueLine (fun _ => rfl) (by simp [lineEvent, State.ChangedBy, hr])
  case cell =>
    refine State.issuesChange_of_trace ?_
    rcases State.cellStep_cases hst hw with ⟨-, heq⟩ | ⟨-, heq⟩ <;> rw [heq]
    exact s.nextColumn_trace_fcause.1
  case colOn =>
    obtain ⟨-, hc, -⟩ := hl
    rw [State.colOnStep, State.whenFree_of_free hw]
    exact State.issuesChange_issueLine (fun _ => rfl) (by simp [lineEvent, State.ChangedBy, hc])
  case pulse =>
    rw [State.pulseStep, hw]
    exact State.issuesChange_of_event rfl trivial
  case colOff =>
    obtain ⟨-, hc, -⟩ := hl
    rw [State.colOffStep, State.whenFree_of_free hw]
    exact State.issuesChange_issueLine (fun u => u.nextColumn_trace_fcause.1)
      (by simp only [lineEvent, State.ChangedBy, hc, getLsbD_lineBit_self])
  case rowDis =>
    obtain ⟨hr, -⟩ := hl
    rw [State.rowDisStep, State.whenFree_of_free hw]
    exact State.issuesChange_issueLine (fun u => u.nextRow_trace_fcause.1)
      (by simp only [lineEvent, State.ChangedBy, hr, getLsbD_lineBit_self])

/-- S_DONE issues nothing (R161, R184). -/
theorem State.doneStep_trace (s : State) : s.doneStep.trace = s.trace := by
  cases hw : s.wpend with
  | true => rw [State.doneStep, State.whenFree_of_held hw]
  | false =>
    rw [State.doneStep, State.whenFree_of_free hw]
    cases s.mode <;> rfl

/-- A fetch issues nothing (R181). -/
theorem trace_of_execSFetch {s t : State} (ht : execSFetch s = .next t) : t.trace = s.trace := by
  rcases execSFetch_cases s with ⟨-, hf⟩ | ⟨-, -, w, -, hf⟩ | ⟨-, -, hf⟩ <;> cases hf.symm.trans ht <;> rfl

/-- A write issues nothing (R110, R197). -/
theorem State.takeWrite_trace (idx : CsrIdx) (d : Word) (s : State) : (s.takeWrite idx d).trace = s.trace := by
  unfold State.takeWrite
  split
  · rcases s.takeCommand_cases (cmdOf d) with heq | ⟨f, -, -, heq⟩ | ⟨-, heq⟩ | ⟨-, -, -, -, heq⟩ <;> rw [heq] <;> rfl
  · rcases parameterWrite_cases idx d s with heq | heq | heq | heq | heq | heq | heq <;> rw [heq]

/-- The host issues nothing (R110, R196, R197). -/
theorem trace_of_hostTurn {s t : State} {w : AccessWord} (ht : exec (decodeAccess w) s = .next t) :
    t.trace = s.trace := by
  rcases hostTurn_cases w s with ⟨idx, heq⟩ | ⟨idx, d, heq⟩ <;> cases heq.symm.trans ht
  · rfl
  · rcases s.whenIdle_cases (State.takeWrite idx d) with ⟨-, heq⟩ | ⟨-, heq⟩ <;> rw [heq]
    exact s.takeWrite_trace idx d

theorem Invariant.issuesChange_of_blockTurn {s t : State} (h : Invariant s) (ht : blockTurn s = .next t) :
    s.IssuesChange t := by
  rcases blockTurn_cases s with ⟨-, heq⟩ | ⟨hw, ⟨-, heq⟩ | ⟨-, heq⟩ | ⟨-, -, heq⟩⟩ <;> rw [heq] at ht
  · cases ht
    exact State.issuesChange_of_trace rfl
  · exact State.issuesChange_of_trace (trace_of_execSFetch ht)
  · cases ht
    exact State.issuesChange_of_trace s.doneStep_trace
  · cases ht
    exact h.issuesChange_renderStep hw

/-- One turn of any agent: only the block issues operations, and reset begins a new trace (R10, R240). -/
theorem Invariant.issuesChange_of_takeTurn {s t : State} (h : Invariant s) {u : Turn} (ht : takeTurn u s = .next t) :
    s.IssuesChange t := by
  cases u with
  | block => exact h.issuesChange_of_blockTurn ht
  | delay =>
    refine State.issuesChange_of_trace ?_
    rcases delayTurn_cases s with ⟨hw, heq⟩ | ⟨-, heq⟩ <;> cases heq.symm.trans ht
    · exact s.accounted_completeWait.held hw
    · rfl
  | host w => exact State.issuesChange_of_trace (trace_of_hostTurn ht)
  | reset =>
    cases ht
    intro e he
    simp [State.reset] at he

end Sys2Proof.Machine

section
open Sys2Proof Sys2Proof.Machine

/-- Settles O59: the invariant holds at reset over any canonical store and along every run. -/
theorem oneRowAtATimeInEveryRun : Obligations.OneRowAtATimeInEveryRun := by
  intro m ts ans k t hm ht
  have hreset : Invariant { State.reset with mem := m, turns := ts, answers := ans } :=
    invariant_of_idle rfl hm rfl rfl rfl rfl rfl
  exact (hreset.of_run k ht).lines.oneLit

/-- Settles O58: taking the turn off the list touches neither the trace nor the lines, and what the turn issues is not
redundant. -/
theorem noRedundantLineOperation : Obligations.NoRedundantLineOperation := by
  intro s t i h ht
  have hc : s.turnTaken.IssuesChange t := (h.of_sameRegisters (t := s.turnTaken) rfl).issuesChange_of_takeTurn ht
  exact ⟨hc (.rowAssert i), hc (.rowDeassert i), hc (.colAssert i), hc (.colDeassert i)⟩

end

/-! PROOF. Everything an enabled step of a render can do, once: it moves the block to another place of the render, after
it has issued nothing, a wait, or one line operation (R110, R150). -/

namespace Sys2Proof.Machine

/-! ### The place of a render -/

/-- The registers that the steps of a render move, past S_NORM (R30, R31, R33, R41). -/
structure Place where
  pass : Word
  row : LineIdx
  col : LineIdx
  st : St
  wpend : Bool

/-- Where the block stands. -/
def State.standing (s : State) : Place := ⟨s.pass, s.row, s.col, s.st, s.wpend⟩

/-- The block at another place, everything else as it is. -/
def State.moveTo (q : Place) (s : State) : State :=
  { s with pass := q.pass, row := q.row, col := q.col, st := q.st, wpend := q.wpend }

/-- The block with other answers of the drive lines to come (log 4). -/
def State.hearing (a : List Bool) (s : State) : State := { s with answers := a }

/-- A step from `s` to the place `q` stays within a render: it leads neither back to S_NORM nor from a busy state to
S_IDLE (R150). -/
structure State.StaysBusy (s : State) (q : Place) : Prop where
  notNorm : q.st ≠ .norm
  notIdle : s.st ≠ .idle → q.st ≠ .idle

/-- Past a column the block has moved, as its place alone tells (R159). -/
theorem State.nextColumn_eq_moveTo {s u : State} (hu : u.standing = s.standing) :
    u.nextColumn = u.moveTo s.nextColumn.standing := by
  obtain ⟨hp, hr, hc, -, hw⟩ := Place.mk.inj hu
  simp only [State.nextColumn, hc]
  split <;> simp [State.moveTo, State.standing, ← hp, ← hr, ← hc, ← hw]

/-- Past a row the block has moved, as its place and `PCNT` alone tell (R160). -/
theorem State.nextRow_eq_moveTo {s u : State} (hu : u.standing = s.standing) (hn : u.pcnt = s.pcnt) :
    u.nextRow = u.moveTo s.nextRow.standing := by
  obtain ⟨hp, hr, hc, -, hw⟩ := Place.mk.inj hu
  simp only [State.nextRow, hp, hr, hn]
  split_ifs <;> simp [State.moveTo, State.standing, ← hp, ← hr, ← hc, ← hw, hn]

theorem State.staysBusy_nextColumn (s : State) : s.StaysBusy s.nextColumn.standing := by
  unfold State.nextColumn
  split <;> exact ⟨nofun, fun _ => nofun⟩

theorem State.staysBusy_nextRow (s : State) : s.StaysBusy s.nextRow.standing := by
  unfold State.nextRow
  split_ifs <;> exact ⟨nofun, fun _ => nofun⟩

/-- A line operation that succeeds leaves the block where it stands (R111 to R114). -/
theorem State.standing_driven (e : Event) (op : LineOp) (s : State) :
    ((s.record e).answered.drive op).standing = s.standing := by
  cases op <;> rfl

/-- What follows the success of a line operation may be told from where the block stands before it. -/
theorem State.issueLine_eq_moveTo {s : State} {op : LineOp} {k : State → State} {q : Place}
    (hk : ∀ u : State, u.standing = s.standing → u.pcnt = s.pcnt → k u = u.moveTo q) (a : List Bool) :
    (s.hearing a).issueLine op k = (s.hearing a).issueLine op (State.moveTo q) := by
  have hd := hk _ (State.standing_driven (lineEvent op) op (s.hearing a)) (State.drive_pcnt op _)
  rw [State.issueLine, State.issueLine, hd]

/-! ### The enabled step of a render -/

/-- The completion of a wait, whatever the answers to come (R119). -/
theorem State.completeWait_eq_moveTo {s : State} (hst : s.st ≠ .norm) :
    ∃ q, s.StaysBusy q ∧ ∀ a, (s.hearing a).completeWait = (s.hearing a).moveTo q := by
  rcases s.completeWait_cases with ⟨hs, -⟩ | ⟨hs, -⟩ | ⟨hd, hp, -⟩
  · refine ⟨{ s.standing with st := .done, wpend := false }, ⟨nofun, fun _ => nofun⟩, fun a => ?_⟩
    rw [State.completeWait, show (s.hearing a).st = .dark from hs]
    rfl
  · refine ⟨{ s.standing with st := .colOff, wpend := false }, ⟨nofun, fun _ => nofun⟩, fun a => ?_⟩
    rw [State.completeWait, show (s.hearing a).st = .pulse from hs]
    rfl
  · refine ⟨{ s.standing with wpend := false }, ⟨hst, id⟩, fun a => ?_⟩
    rcases (s.hearing a).completeWait_cases with ⟨h, -⟩ | ⟨h, -⟩ | ⟨-, -, heq⟩
    · exact absurd h hd
    · exact absurd h hp
    · exact heq

/-- S_CELL, whatever the answers to come (R155). -/
theorem State.cellStep_eq_moveTo {s : State} (hst : s.st = .cell) (hw : s.wpend = false) :
    ∃ q, s.StaysBusy q ∧ ∀ a, (s.hearing a).cellStep = (s.hearing a).moveTo q := by
  rcases State.cellStep_cases hst hw with ⟨hlit, -⟩ | ⟨hlit, -⟩
  · refine ⟨{ s.standing with st := .colOn }, ⟨nofun, fun _ => nofun⟩, fun a => ?_⟩
    rcases State.cellStep_cases (s := s.hearing a) hst hw with ⟨-, heq⟩ | ⟨h, -⟩
    · exact heq
    · exact absurd (hlit.symm.trans h) nofun
  · refine ⟨s.nextColumn.standing, s.staysBusy_nextColumn, fun a => ?_⟩
    rcases State.cellStep_cases (s := s.hearing a) hst hw with ⟨h, -⟩ | ⟨-, heq⟩
    · exact absurd (hlit.symm.trans h) nofun
    · exact heq.trans (State.nextColumn_eq_moveTo rfl)

/-- S_NORM leads neither to S_IDLE nor back to itself (R135). -/
theorem State.normalize_st_ne (s : State) : s.normalize.st ≠ .idle ∧ s.normalize.st ≠ .norm := by
  rcases s.normalize_st_cases with h | h | h <;> rw [h] <;> decide

/-- Past S_NORM the enabled step moves the block to a place that the answers to come do not tell, after it has issued
nothing, a wait, or with no wait pending one line operation, of which only the success lets it move (R110, R150). -/
theorem State.renderStep_cases {s : State} (hst : s.st ≠ .norm) :
    ∃ q, s.StaysBusy q ∧
      ((∀ a, (s.hearing a).renderStep = (s.hearing a).moveTo q) ∨
        (∃ n, ∀ a, (s.hearing a).renderStep = ((s.hearing a).record (.waitUs n)).moveTo q) ∨
        (s.wpend = false ∧ ∃ op, ∀ a, (s.hearing a).renderStep = (s.hearing a).issueLine op (State.moveTo q))) := by
  cases hw : s.wpend with
  | true =>
    obtain ⟨q, hq, heq⟩ := State.completeWait_eq_moveTo hst
    exact ⟨q, hq, .inl fun a => (if_pos hw).trans (heq a)⟩
  | false =>
    have hstep : ∀ a, (s.hearing a).renderStep = _ := fun a => if_neg (by simp [State.hearing, hw])
    have hfree : ∀ a body, (s.hearing a).whenFree body = body (s.hearing a) :=
      fun a => State.whenFree_of_free (s := s.hearing a) hw
    have hseen : ∀ a, (s.hearing a).st = s.st := fun _ => rfl
    cases hs : s.st <;> simp only [hseen, hs] at hstep
    case norm => exact absurd hs hst
    case idle | fetch | done | fault =>
      exact ⟨s.standing, ⟨hst, id⟩, .inl hstep⟩
    case dark =>
      refine ⟨{ s.standing with wpend := true }, ⟨hst, id⟩, .inr (.inl ⟨s.total, fun a => ?_⟩)⟩
      exact (hstep a).trans (if_neg (by simp [State.hearing, hw]))
    case rowEn =>
      refine ⟨{ s.standing with col := 0, st := .cell }, ⟨nofun, fun _ => nofun⟩,
        .inr (.inr ⟨rfl, .rowAs s.row, fun a => ?_⟩)⟩
      refine ((hstep a).trans (hfree a _)).trans ?_
      exact State.issueLine_eq_moveTo (fun u hu _ => by rw [← hu]; rfl) a
    case cell =>
      obtain ⟨q, hq, heq⟩ := State.cellStep_eq_moveTo hs hw
      exact ⟨q, hq, .inl fun a => (hstep a).trans (heq a)⟩
    case colOn =>
      refine ⟨{ s.standing with st := .pulse }, ⟨nofun, fun _ => nofun⟩,
        .inr (.inr ⟨rfl, .colAs s.col, fun a => ?_⟩)⟩
      refine ((hstep a).trans (hfree a _)).trans ?_
      exact State.issueLine_eq_moveTo (fun u hu _ => by rw [← hu]; rfl) a
    case pulse =>
      refine ⟨{ s.standing with wpend := true }, ⟨hst, id⟩, .inr (.inl ⟨s.minp, fun a => ?_⟩)⟩
      exact (hstep a).trans (if_neg (by simp [State.hearing, hw]))
    case colOff =>
      refine ⟨s.nextColumn.standing, s.staysBusy_nextColumn, .inr (.inr ⟨rfl, .colDe s.col, fun a => ?_⟩)⟩
      refine ((hstep a).trans (hfree a _)).trans ?_
      exact State.issueLine_eq_moveTo (fun u hu _ => State.nextColumn_eq_moveTo hu) a
    case rowDis =>
      refine ⟨s.nextRow.standing, s.staysBusy_nextRow, .inr (.inr ⟨rfl, .rowDe s.row, fun a => ?_⟩)⟩
      refine ((hstep a).trans (hfree a _)).trans ?_
      exact State.issueLine_eq_moveTo (fun u hu hn => State.nextRow_eq_moveTo hu hn) a

end Sys2Proof.Machine

/-! PROOF. What a busy block keeps (O50, O51), and one frame of a PLAY in single steps, from its fetch to the next (O30,
O39). -/

namespace Sys2Proof.Machine

/-! ### What a render keeps -/

/-- From `s` to `t` the host's parameters, the frame under way and `DONE` are as before, and a block that is not idle
does not become idle (R21 to R26, R34, R39, R180). -/
structure State.KeepsRender (s t : State) : Prop where
  minp : t.minp = s.minp
  fps : t.fps = s.fps
  base : t.base = s.base
  len : t.len = s.len
  mode : t.mode = s.mode
  frame : t.frame = s.frame
  total : t.total = s.total
  done : t.done = s.done
  notIdle : s.st ≠ .idle → t.st ≠ .idle

theorem State.keepsRender_refl (s : State) : s.KeepsRender s := ⟨rfl, rfl, rfl, rfl, rfl, rfl, rfl, rfl, id⟩

theorem State.KeepsRender.trans {s t u : State} (h : s.KeepsRender t) (h' : t.KeepsRender u) : s.KeepsRender u :=
  ⟨h'.minp.trans h.minp, h'.fps.trans h.fps, h'.base.trans h.base, h'.len.trans h.len, h'.mode.trans h.mode,
    h'.frame.trans h.frame, h'.total.trans h.total, h'.done.trans h.done, h'.notIdle ∘ h.notIdle⟩

/-- The event of a micro-operation (R110). -/
theorem State.keepsRender_record (e : Event) (s : State) : s.KeepsRender (s.record e) :=
  ⟨rfl, rfl, rfl, rfl, rfl, rfl, rfl, rfl, id⟩

/-- Another place of the render. -/
theorem State.keepsRender_moveTo {s : State} {q : Place} (hq : s.st ≠ .idle → q.st ≠ .idle) :
    s.KeepsRender (s.moveTo q) :=
  ⟨rfl, rfl, rfl, rfl, rfl, rfl, rfl, rfl, hq⟩

/-- A line operation that succeeds drives its line only (R111 to R114). -/
theorem State.keepsRender_driven (op : LineOp) (s : State) : s.KeepsRender (s.answered.drive op) := by
  constructor <;> simp

/-- A line operation, whether it moves the block or enters the fault state (R110, R222). -/
theorem State.keepsRender_issueLine {s : State} {q : Place} (hq : s.st ≠ .idle → q.st ≠ .idle) (op : LineOp) :
    s.KeepsRender (s.issueLine op (State.moveTo q)) := by
  have hrec := s.keepsRender_record (lineEvent op)
  rcases s.issueLine_cases op (State.moveTo q) with ⟨-, heq⟩ | ⟨-, heq⟩ <;> rw [heq]
  · constructor <;> simp
  · exact (hrec.trans (State.keepsRender_driven op _)).trans (State.keepsRender_moveTo (by simpa using hq))

/-- S_NORM writes the results of the normalizer only (R135). -/
theorem State.keepsRender_normStep (s : State) : s.KeepsRender s.normStep := by
  rcases s.whenFree_cases State.normalize with ⟨-, heq⟩ | ⟨-, heq⟩ <;> rw [State.normStep, heq]
  · exact s.keepsRender_refl
  · exact ⟨by simp, by simp, by simp, by simp, by simp, by simp, by simp, by simp, fun _ => s.normalize_st_ne.1⟩

/-- A completion moves `ST` on and clears `WPEND` (R119). -/
theorem State.keepsRender_completeWait (s : State) : s.KeepsRender s.completeWait := by
  rcases s.completeWait_cases with ⟨-, heq⟩ | ⟨-, heq⟩ | ⟨-, -, heq⟩ <;> rw [heq] <;> constructor <;> simp

/-- The enabled step of a render (R150, R180). -/
theorem State.keepsRender_renderStep (s : State) : s.KeepsRender s.renderStep := by
  cases hw : s.wpend with
  | true =>
    rw [State.renderStep, if_pos hw]
    exact s.keepsRender_completeWait
  | false =>
    by_cases hst : s.st = .norm
    · simp only [State.renderStep, hw, hst, Bool.false_eq_true, if_false]
      exact s.keepsRender_normStep
    · obtain ⟨q, hq, hstep⟩ := State.renderStep_cases hst
      have hself : s.hearing s.answers = s := rfl
      rcases hstep with heq | ⟨n, heq⟩ | ⟨-, op, heq⟩ <;> rw [← hself, heq, hself]
      · exact State.keepsRender_moveTo hq.notIdle
      · exact (s.keepsRender_record _).trans (State.keepsRender_moveTo hq.notIdle)
      · exact State.keepsRender_issueLine hq.notIdle op

/-- A row of enabled steps of a render (R180). -/
theorem State.keepsRender_renderSteps (k : Nat) (s : State) : s.KeepsRender (State.renderSteps k s) :=
  State.renderSteps_induct (P := s.KeepsRender) (fun u _ h => h.trans u.keepsRender_renderStep) k s s.keepsRender_refl

/-- The render of the word in `FRAME` from S_NORM on (R180, R182, R183). -/
theorem State.keepsRender_runFrame {s : State} (hst : s.st = .norm) : s.KeepsRender (s.runFrame s.frame) := by
  rw [State.runFrame_self hst]
  exact State.keepsRender_renderSteps _ s

/-! ### What a step of a busy block can do -/

/-- Outside S_IDLE every turn but reset keeps the render, or fetches, or ends it (R161, R180, R181, R184, R197). -/
theorem keepsRender_of_takeTurn {s t : State} {u : Turn} (hu : u ≠ .reset) (hst : s.st ≠ .idle)
    (ht : takeTurn u s = .next t) :
    s.KeepsRender t ∨ (s.st = .fetch ∧ ∃ w, t = s.fetched w) ∨
      (s.st = .done ∧ s.wpend = false ∧ t = s.doneStep) := by
  cases u with
  | block =>
    rcases blockTurn_cases s with ⟨-, heq⟩ | ⟨hw, ⟨hs, heq⟩ | ⟨hs, heq⟩ | ⟨-, -, heq⟩⟩ <;> have ht := heq.symm.trans ht
    · cases ht
      exact .inl s.keepsRender_refl
    · rcases execSFetch_cases s with ⟨-, hf⟩ | ⟨-, -, w, -, hf⟩ | ⟨-, -, hf⟩ <;> cases hf.symm.trans ht
      · exact .inl s.keepsRender_refl
      · exact .inr (.inl ⟨hs, w, rfl⟩)
    · cases ht
      exact .inr (.inr ⟨hs, hw, rfl⟩)
    · cases ht
      exact .inl s.keepsRender_renderStep
  | delay =>
    rcases delayTurn_cases s with ⟨-, heq⟩ | ⟨-, heq⟩ <;> cases heq.symm.trans ht
    · exact .inl s.keepsRender_completeWait
    · exact .inl s.keepsRender_refl
  | host w =>
    rcases hostTurn_cases w s with ⟨idx, heq⟩ | ⟨idx, d, heq⟩ <;> cases heq.symm.trans ht
    · exact .inl ⟨rfl, rfl, rfl, rfl, rfl, rfl, rfl, rfl, id⟩
    · rw [State.whenIdle_of_ne hst]
      exact .inl s.keepsRender_refl
  | reset => exact absurd rfl hu

/-! ### The first and the last step of a frame of a PLAY (R181, R184) -/

/-- S_DONE of a PLAY (R184). -/
theorem State.doneStep_of_play {s : State} (hw : s.wpend = false) (hm : s.mode = .play) :
    s.doneStep = s.advanceFrame := by
  rw [State.doneStep, State.whenFree_of_free hw, hm]

/-- S_DONE of a one-shot render (R161). -/
theorem State.doneStep_of_oneShot {s : State} (hw : s.wpend = false) (hm : s.mode = .oneShot) :
    s.doneStep = s.returnOneShot := by
  rw [State.doneStep, State.whenFree_of_free hw, hm]

/-- The counter of the frames as a number, below its register's end (R35). -/
theorem toNat_fpSucc_of_lt {p : BitVec 16} (h : p.toNat + 1 < 2 ^ 16) : (fpSucc p).toNat = p.toNat + 1 := by
  rw [fpSucc_of_lt h, BitVec.toNat_add_of_lt h]
  rfl

/-- The index of the next frame, the first following the last (R184). -/
theorem toNat_fpNext {fp len : BitVec 16} (h : fp.toNat < len.toNat) :
    (fpNext fp len).toNat = (fp.toNat + 1) % len.toNat := by
  unfold fpNext
  split
  next hlast => rw [hlast, Nat.mod_self]; rfl
  next hmore =>
    have hlt : fp.toNat + 1 < len.toNat := by omega
    rw [toNat_fpSucc_of_lt (hlt.trans len.isLt), Nat.mod_eq_of_lt hlt]

/-- The block's turn in S_FETCH (R181). -/
theorem step_fetch {s : State} {ts : List Turn} {w : FrameWord} (ht : s.turns = .block :: ts) (hst : s.st = .fetch)
    (hw : s.wpend = false) (hr : memRead s.mem s.fetchAddr = some w) :
    step s = .next { s.fetched w with turns := ts, ticks := s.ticks + 1 } := by
  rw [step_of_turns ht, takeTurn, blockTurn_eq, if_neg (by simp [hw]), hst]
  exact exec_sFetch_of_memRead hw hr

/-- The block's turn at the end of a frame of a PLAY (R184). -/
theorem step_advance {s : State} {ts : List Turn} (ht : s.turns = .block :: ts) (hst : s.st = .done)
    (hw : s.wpend = false) (hmode : s.mode = .play) :
    step s = .next { s with fp := fpNext s.fp s.len, st := .fetch, turns := ts, ticks := s.ticks + 1 } := by
  rw [step_of_turns ht, takeTurn, blockTurn_eq, if_neg (by simp [hw]), hst]
  exact congrArg Host.Outcome.next (State.doneStep_of_play hw hmode)

end Sys2Proof.Machine

section
open Sys2Proof Sys2Proof.Machine

/-- Settles O30: the advance of `MODE = 1`; the next index is the one that the step forms, past its register the free
one (log 10). -/
theorem playAdvances : Obligations.PlayAdvances := by
  intro s hw hm
  have hexec : exec .sDone s = .next { s with fp := fpNext s.fp s.len, st := .fetch } :=
    congrArg Host.Outcome.next (State.doneStep_of_play hw hm)
  refine ⟨fun hlast => ?_, fun hmore => ⟨fpSucc s.fp, toNat_fpSucc_of_lt, ?_⟩⟩
  · rw [hexec, fpNext, if_pos hlast]
  · rw [hexec, fpNext, if_neg hmore]

/-- Settles O50: of the three things that a step can do outside S_IDLE none makes a PLAY idle or sets `DONE`. -/
theorem playNeverReturns : Obligations.PlayNeverReturns := by
  intro s t hm hst hr ht
  rcases keepsRender_of_takeTurn (s := s.turnTaken) hr hst ht with h | ⟨-, w, rfl⟩ | ⟨-, hw, rfl⟩
  · exact ⟨h.mode.trans hm, h.notIdle hst, h.done⟩
  · exact ⟨hm, nofun, rfl⟩
  · rw [State.doneStep_of_play hw hm]
    exact ⟨hm, nofun, rfl⟩

/-- Settles O51: a step that keeps the render keeps all of them, a fetch changes `FRAME` and `TOTAL` only, and the end
of a render changes none. -/
theorem parametersConstantWhileBusy : Obligations.ParametersConstantWhileBusy := by
  intro s t hst hr ht
  rcases keepsRender_of_takeTurn (s := s.turnTaken) hr hst ht with h | ⟨hf, w, rfl⟩ | ⟨-, hw, rfl⟩
  · exact ⟨h.minp, h.fps, h.base, h.len, h.mode, fun _ => ⟨h.frame, h.total⟩⟩
  · exact ⟨rfl, rfl, rfl, rfl, rfl, fun hne => absurd hf hne⟩
  · cases hm : s.turnTaken.mode with
    | oneShot =>
      rw [State.doneStep_of_oneShot hw hm]
      exact ⟨rfl, rfl, rfl, rfl, rfl, fun _ => ⟨rfl, rfl⟩⟩
    | play =>
      rw [State.doneStep_of_play hw hm]
      exact ⟨rfl, rfl, rfl, rfl, rfl, fun _ => ⟨rfl, rfl⟩⟩

/-- Settles O39: the fetch, the single steps of the render from S_NORM to S_DONE, and the block's turn that goes on to
the next frame. -/
theorem playRendersFrameAfterFrame : Obligations.PlayRendersFrameAfterFrame := by
  intro s w rest ans hst hmode hw hm hfps hfp hr ha
  have h : (s.fetched w).RenderedTo w ans ((s.fetched w).runFrame w) := State.renderedTo_runFrame hm hw ha
  have hk : (s.fetched w).KeepsRender ((s.fetched w).runFrame w) :=
    State.keepsRender_runFrame (s := s.fetched w) rfl
  obtain ⟨ts, hts, hrun⟩ : ∃ ts, undisturbed ts ∧ ∀ rest n,
      core.run ts.length { s.fetched w with turns := ts ++ rest, ticks := n } =
        .next { (s.fetched w).runFrame w with turns := rest, ticks := n + ts.length } :=
    run_runFrame (s := s.fetched w) rfl hw
  generalize (s.fetched w).runFrame w = v at h hk hrun
  have hfirst := step_fetch (s := { s with turns := .block :: (ts ++ .block :: rest) }) rfl hst hw hr
  have hlast := step_advance (s := { v with turns := .block :: rest, ticks := s.ticks + 1 + ts.length }) rfl h.st
    h.wpend (h.mode.trans hmode)
  refine ⟨.block :: (ts ++ [.block]),
    { v with fp := fpNext v.fp v.len, st := .fetch, turns := rest, ticks := s.ticks + 1 + ts.length + 1 },
    List.forall_mem_cons.mpr ⟨.inl rfl, List.forall_mem_append.mpr ⟨hts, by simp⟩⟩, ?_, rfl, h.mode.trans hmode,
    hk.frame, ?_, ?_, ?_, hk.done, rfl, h.answers⟩
  · rw [List.cons_append, List.append_assoc, List.length_cons, List.length_append]
    exact (run_succ hfirst _).trans ((run_add (hrun (.block :: rest) (s.ticks + 1)) 1).trans (run_succ hlast 0))
  · rw [hk.total]
    exact toNat_budget hfps
  · rw [hk.total]
    exact h.trace
  · rw [h.fp, hk.len]
    exact toNat_fpNext hfp

end

/-! PROOF. The render that a line operation stops (O60): up to the failure it goes in step with the render in which no
line operation fails, whose trace is the closed form (R165, R216). -/

namespace Sys2Proof.Machine

/-! ### The state of a render after the events it has issued -/

/-- The block of `n` at the place `q` of a render that has issued the events `es`, none of its line operations having
failed. -/
def State.issued (n : State) (es : List Event) (q : Place) : State := (n.scan es q.pass q.row q.col q.st).moveTo q

/-- No event is issued yet. -/
theorem State.issued_nil (n : State) : n.issued [] n.standing = n := by
  simp [State.issued, State.scan, State.moveTo, State.standing, lineOps]

/-- A wait is an event, not a line operation. -/
theorem State.record_issued_waitUs (n : State) (es : List Event) (q q' : Place) (m : Word) :
    ((n.issued es q).record (.waitUs m)).moveTo q' = n.issued (es ++ [.waitUs m]) q' := by
  have hnone : lineOps [.waitUs m] = 0 := rfl
  simp [State.issued, State.scan, State.moveTo, State.record, lineOps_append, hnone, rowsStep, colsStep]

/-- The enabled step of a render after the events `es`, whatever the answers to come: it issues a wait or nothing, or
one line operation. -/
theorem State.renderStep_issued (n : State) (es : List Event) {q : Place} (hq : q.st ≠ .norm) :
    ∃ q' : Place, q'.st ≠ .norm ∧
      ((∃ fs, lineOps fs = 0 ∧ ∀ a, ((n.hearing a).issued es q).renderStep = (n.hearing a).issued (es ++ fs) q') ∨
        (q.wpend = false ∧ ∃ op, ∀ a,
          ((n.hearing a).issued es q).renderStep = ((n.hearing a).issued es q).issueLine op (State.moveTo q'))) := by
  obtain ⟨q', hq', hstep⟩ := State.renderStep_cases (s := n.issued es q) hq
  have hself : ∀ a, (n.issued es q).hearing (a.drop (lineOps es)) = (n.hearing a).issued es q := fun _ => rfl
  refine ⟨q', hq'.notNorm, ?_⟩
  rcases hstep with heq | ⟨m, heq⟩ | ⟨hw, op, heq⟩
  · refine .inl ⟨[], rfl, fun a => ?_⟩
    rw [← hself, heq, List.append_nil]
    rfl
  · refine .inl ⟨[.waitUs m], rfl, fun a => ?_⟩
    rw [← hself, heq, hself, State.record_issued_waitUs]
  · refine .inr ⟨hw, op, fun a => ?_⟩
    rw [← hself, heq]

/-- A line operation that succeeds (R110 to R114). -/
theorem State.issueLine_issued_of_ok {n : State} {es : List Event} {q : Place} (hw : q.wpend = false) {op : LineOp}
    (h : n.AnswersOk (es ++ [lineEvent op])) (q' : Place) :
    (n.issued es q).issueLine op (State.moveTo q') = n.issued (es ++ [lineEvent op]) q' := by
  have hfree : n.issued es q = n.scan es q.pass q.row q.col q.st := by
    rw [State.issued, State.moveTo, hw]
    rfl
  rw [hfree, State.issueLine_scan op q.st h]
  rfl

/-- The state in which the line operation `op` after the events `es` has failed (R216, R222). -/
def State.stopped (n : State) (es : List Event) (op : LineOp) (rest : List Bool) (q : Place) : State :=
  { n.scan es q.pass q.row q.col .fault with
    trace := n.trace ++ es ++ [lineEvent op], fcause := .hardwareFault, finfo := lineCode op, answers := rest }

/-- A line operation that fails (R216, R222). -/
theorem State.issueLine_issued_of_fault {n : State} {es : List Event} {rest : List Bool}
    (h : n.answers.drop (lineOps es) = true :: rest) (q : Place) (op : LineOp) (k : State → State) :
    (n.issued es q).issueLine op k = n.stopped es op rest q := by
  have ha : (n.issued es q).answers = true :: rest := h
  rw [State.issueLine_eq_of_fault (by rw [State.lineAnswer, ha]; rfl)]
  simp only [State.answered, ha]
  rfl

/-! ### The two renders in step -/

/-- A render goes on from each state on its way to the end. -/
theorem State.Reaches.goes_on {s t u : State} (h : s.Reaches t) (hu : s.Reaches u) (hover : u.renderOver = true) :
    t.Reaches u := by
  obtain ⟨j, rfl⟩ := h
  obtain ⟨k, rfl⟩ := hu
  exact ⟨k, by rw [← State.renderSteps_add, Nat.add_comm, State.renderSteps_add, State.renderSteps_over hover]⟩

/-- A render that has ended goes nowhere. -/
theorem State.Reaches.eq_of_over {s t : State} (h : s.Reaches t) (hover : s.renderOver = true) : t = s := by
  obtain ⟨k, rfl⟩ := h
  exact State.renderSteps_over hover k

/-- The enabled step of a render issues at most one micro-operation (R110). -/
theorem State.renderStep_event (s : State) : addsAtMostOneEvent s s.renderStep := by
  cases hw : s.wpend with
  | true =>
    rw [State.renderStep, if_pos hw]
    exact s.accounted_completeWait.event
  | false => exact (State.accounted_renderStep hw).event

/-- The enabled steps of a render only append to the trace (R11). -/
theorem State.Reaches.trace_grows {s t : State} (h : s.Reaches t) : s.trace <+: t.trace := by
  obtain ⟨k, rfl⟩ := h
  refine State.renderSteps_induct (P := fun u => s.trace <+: u.trace) (fun u _ hu => hu.trans ?_) k s
    (List.prefix_refl _)
  rcases u.renderStep_event with heq | ⟨e, heq⟩ <;> rw [heq]
  exact List.prefix_append _ _

/-- The answers of the drive lines of which the one after the first `k` is a failure (R118; log 4). -/
def failingAnswers (k : Nat) (rest : List Bool) : List Bool := List.replicate k false ++ true :: rest

/-- The answers of `N` line operations that succeed. -/
def okAnswers (N : Nat) : List Bool := List.replicate N false

section
variable {n : State} {k N : Nat} {rest : List Bool} {es : List Event}

theorem State.answersOk_okAnswers (h : lineOps es ≤ N) : (n.hearing (okAnswers N)).AnswersOk es := by
  refine ⟨List.replicate (N - lineOps es) false, ?_⟩
  rw [List.replicate_append_replicate, Nat.add_sub_cancel' h]
  rfl

theorem State.answersOk_failingAnswers (h : lineOps es ≤ k) :
    (n.hearing (failingAnswers k rest)).AnswersOk es := by
  refine ⟨List.replicate (k - lineOps es) false ++ true :: rest, ?_⟩
  rw [← List.append_assoc, List.replicate_append_replicate, Nat.add_sub_cancel' h]
  rfl

theorem drop_failingAnswers (h : lineOps es = k) : (failingAnswers k rest).drop (lineOps es) = true :: rest := by
  rw [h]
  exact List.drop_left' (List.length_replicate ..)

/-- The render from `n` in which the line operation after the first `k` fails, at one moment, in step with the one in
which `N` of them succeed: before the failure both have issued the same events and stand at the same place; at the
failure the other one has issued the failed operation as well. -/
inductive State.InStep (n : State) (k N : Nat) (rest : List Bool) : State → Prop
  | underway (es : List Event) (q : Place) (hq : q.st ≠ .norm) (hk : lineOps es ≤ k)
      (h : (n.hearing (okAnswers N)).Reaches ((n.hearing (okAnswers N)).issued es q)) :
      InStep n k N rest ((n.hearing (failingAnswers k rest)).issued es q)
  | stopped (es : List Event) (q : Place) (op : LineOp) (hk : lineOps es = k)
      (h : ∃ u, (n.hearing (okAnswers N)).Reaches u ∧ u.trace = n.trace ++ (es ++ [lineEvent op])) :
      InStep n k N rest ((n.hearing (failingAnswers k rest)).stopped es op rest q)

/-- Every enabled step keeps the two renders in step: the next line operation succeeds in both, or it is the one after
the first `k`. -/
theorem State.InStep.renderStep {s : State} (hkN : k < N) (h : State.InStep n k N rest s)
    (hover : s.renderOver = false) : State.InStep n k N rest s.renderStep := by
  cases h with
  | stopped => exact absurd hover nofun
  | underway es q hq hk h =>
    have hnext := h.trans (State.reaches_renderStep hover)
    obtain ⟨q', hq', ⟨fs, hfs, heq⟩ | ⟨hw, op, heq⟩⟩ := n.renderStep_issued es hq
    · rw [heq] at hnext ⊢
      exact .underway _ q' hq' (by rw [lineOps_append]; omega) hnext
    · have hone : lineOps (es ++ [lineEvent op]) = lineOps es + 1 := by
        rw [lineOps_append, lineOps_line (by cases op <;> rfl)]
      rw [heq, State.issueLine_issued_of_ok hw (State.answersOk_okAnswers (by omega))] at hnext
      rw [heq]
      by_cases hlt : lineOps es < k
      · rw [State.issueLine_issued_of_ok hw (State.answersOk_failingAnswers (by omega))]
        exact .underway _ q' hq' (by omega) hnext
      · have hlast : lineOps es = k := by omega
        rw [State.issueLine_issued_of_fault (drop_failingAnswers hlast)]
        exact .stopped es q op hlast ⟨_, hnext, rfl⟩

/-- A render whose line operation after the first `k` fails, where the one in which none fails issues more than `k`,
ends at the failure, its events a beginning of the other one's. -/
theorem State.InStep.stops {s u : State} {ops : List Event} (h : State.InStep n k N rest s)
    (hover : s.renderOver = true) (hu : (n.hearing (okAnswers N)).Reaches u) (hend : u.renderOver = true)
    (htrace : u.trace = n.trace ++ ops) (hops : k < lineOps ops) :
    ∃ es op q, s = (n.hearing (failingAnswers k rest)).stopped es op rest q ∧ lineOps es = k ∧
      es ++ [lineEvent op] <+: ops := by
  cases h with
  | underway es q hq hk h =>
    have hlast := (h.goes_on hu hend).eq_of_over hover
    have hes : ops = es := List.append_cancel_left (htrace.symm.trans (congrArg State.trace hlast))
    rw [hes] at hops
    omega
  | stopped es q op hk h =>
    obtain ⟨v, hv, hvt⟩ := h
    have hpre := (hv.goes_on hu hend).trace_grows
    rw [hvt, htrace, List.prefix_append_right_inj] at hpre
    exact ⟨es, op, q, rfl, hk, hpre⟩

/-- Past S_NORM the two renders begin in step. -/
theorem State.InStep.of_start (hst : n.st ≠ .norm) : State.InStep n k N rest (n.hearing (failingAnswers k rest)) := by
  have h := State.InStep.underway (n := n) (k := k) (N := N) (rest := rest) [] n.standing hst (Nat.zero_le k)
    ⟨0, (State.issued_nil (n.hearing (okAnswers N))).symm⟩
  rwa [show (n.hearing (failingAnswers k rest)).issued [] n.standing = _ from State.issued_nil _] at h

end

/-- S_NORM does not look at the answers to come (R135). -/
theorem State.normalize_hearing (s : State) (a : List Bool) : (s.hearing a).normalize = s.normalize.hearing a := by
  simp only [State.normalize, State.hearing]

/-- The render of a frame word, whatever the answers to come: S_NORM, and then as many enabled steps (R182, R183). -/
theorem State.runFrame_hearing {s : State} (hw : s.wpend = false) (f : FrameWord) (a : List Bool) :
    (s.hearing a).runFrame f = State.renderSteps (3 + 88 * (normPcnt f s.total s.minp).toNat)
      ((State.normalize { s with frame := f, st := .norm }).hearing a) := by
  rw [← State.normalize_hearing]
  exact State.runFrame_of_free (s := s.hearing a) hw f

/-- The render in which no line operation fails, in the terms of the comparison (R165). -/
theorem State.runFrame_okAnswers {f : FrameWord} {s : State} {N : Nat} (hm : s.minp ≠ 0) (hw : s.wpend = false)
    (hN : lineOpCount f s.total s.minp = N) :
    ((s.hearing (okAnswers N)).runFrame f).trace = s.trace ++ renderOps f s.total s.minp := by
  have hN' : lineOpCount f (s.hearing (okAnswers N)).total (s.hearing (okAnswers N)).minp = N := hN
  have ha : (s.hearing (okAnswers N)).answers =
      List.replicate (lineOpCount f (s.hearing (okAnswers N)).total (s.hearing (okAnswers N)).minp) false ++ [] := by
    rw [hN', List.append_nil]
    rfl
  exact (State.renderedTo_runFrame (s := s.hearing (okAnswers N)) hm hw ha).trace

/-- The render of a frame word of which the line operation after the first `k` fails: S_NORM, and then the failure
(R216, R222, R223). -/
theorem State.runFrame_of_failing {f : FrameWord} {s : State} {k : Nat} {rest : List Bool} (hm : s.minp ≠ 0)
    (hw : s.wpend = false) (hf : f ≠ 0) (hk : k < lineOpCount f s.total s.minp) :
    ∃ es op q, (s.hearing (failingAnswers k rest)).runFrame f =
        ((State.normalize { s with frame := f, st := .norm }).hearing (failingAnswers k rest)).stopped es op rest q ∧
      lineOps es = k ∧ es ++ [lineEvent op] <+: renderOps f s.total s.minp := by
  have hops : k < lineOps (renderOps f s.total s.minp) := by rwa [lineOps_renderOps hf, ← lineOpCount_of_lit hf]
  obtain ⟨N, hN⟩ : ∃ N, lineOpCount f s.total s.minp = N := ⟨_, rfl⟩
  have hok := State.runFrame_okAnswers hm hw hN
  have hend := State.renderOver_runFrame f (s := s.hearing (okAnswers N)) hw
  have hover := State.renderOver_runFrame f (s := s.hearing (failingAnswers k rest)) hw
  obtain ⟨-, hst⟩ := State.normalize_st_ne { s with frame := f, st := .norm }
  rw [hN] at hk
  rw [← show (State.normalize { s with frame := f, st := .norm }).trace = s.trace from State.normalize_trace _] at hok
  rw [State.runFrame_hearing hw] at hover hok hend ⊢
  generalize State.normalize { s with frame := f, st := .norm } = n at hst hok hend hover ⊢
  have hinstep := State.renderSteps_induct (P := State.InStep n k N rest) (fun _ hu h => h.renderStep hk hu)
    (3 + 88 * (normPcnt f s.total s.minp).toNat) _ (State.InStep.of_start hst)
  exact hinstep.stops hover ⟨_, rfl⟩ hend hok hops

end Sys2Proof.Machine

section
open Sys2Proof Sys2Proof.Machine

/-- Settles O60: the render goes in step with the one in which no line operation fails, up to the failure. -/
theorem failingRenderStopsAtTheFailure : Obligations.FailingRenderStopsAtTheFailure := by
  intro f s k rest hm hw hk ha
  have hf : f ≠ 0 := fun h => by simp [h, lineOpCount, litNat_eq_zero_iff] at hk
  have hself : s.hearing (failingAnswers k rest) = s := by rw [failingAnswers, ← ha]; rfl
  obtain ⟨es, op, q, heq, hes, hpre⟩ := State.runFrame_of_failing (rest := rest) hm hw hf hk
  refine ⟨op, es, s.runFrame f, exec_decodeFrame f s, hpre, hes, ?_⟩
  rw [hself, State.normalize_of_lit hf, normPcnt_of_lit hf hm] at heq
  rw [heq, hw]
  rfl

end

/-! PROOF. The host port: the writes (O44), the commands (O45 to O47), and that no access changes a block that is busy or
faulted (O48). -/

namespace Sys2Proof.Machine

/-! ### The host's turn outside S_IDLE (R205) -/

/-- The turns left are no part of the block (log 3). -/
theorem sameBlock_of_turnTaken {s t : State} (h : sameBlock s.turnTaken t) : sameBlock s t := h

/-- A read writes `csr_rdata` only, and a write is discarded (R196, R197). -/
theorem sameBlock_of_hostTurn {s : State} (hst : s.st ≠ .idle) (w : AccessWord) :
    ∃ t, exec (decodeAccess w) s = .next t ∧ sameBlock s t := by
  rcases hostTurn_cases w s with ⟨idx, heq⟩ | ⟨idx, d, heq⟩
  · exact ⟨_, heq, rfl⟩
  · rw [State.whenIdle_of_ne hst] at heq
    exact ⟨s, heq, rfl⟩

/-! ### Writes (R197 to R199) -/

/-- A write outside S_IDLE is discarded (R197). -/
theorem exec_csrWr_of_ne {s : State} (hst : s.st ≠ .idle) (x : CsrIdx) (d : Word) : exec (.csrWr x d) s = .next s :=
  congrArg Host.Outcome.next (State.whenIdle_of_ne hst _)

/-- A write taken, of an index other than that of `CTRL` (R198, R199). -/
theorem exec_csrWr_of_idle {s : State} (hst : s.st = .idle) {x : CsrIdx} (hx : x ≠ 0) (d : Word) :
    exec (.csrWr x d) s = .next (parameterWrite x d s) :=
  congrArg Host.Outcome.next ((State.whenIdle_of_idle hst _).trans (if_neg hx))

/-- Index 1 and the indexes 8 to 15 store nothing (R199). -/
theorem parameterWrite_readOnly {x : CsrIdx} (hx : x = 1 ∨ 8 ≤ x.toNat) (d : Word) (s : State) :
    parameterWrite x d s = s := by
  have hnat : x.toNat = 1 ∨ 8 ≤ x.toNat := hx.imp_left (congrArg BitVec.toNat)
  unfold parameterWrite
  split
  case h_7 => rfl
  all_goals exfalso; omega

/-- A write of `CTRL` is the command of the number in bits 1:0 of its data (R86, R197). -/
theorem exec_csrWr_ctrl_of_mod {d : Word} {n : Nat} (h : d.toNat % 4 = n) (s : State) :
    exec (.csrWr 0 d) s = exec (decodeCmd (BitVec.ofNat 32 n)) s := by
  have hbits : d.extractLsb' 0 2 = (BitVec.ofNat 32 n).extractLsb' 0 2 := by
    apply BitVec.eq_of_toNat_eq
    simp [← h]
  rw [exec_csrWr_ctrl, decodeCmd_eq, decodeCmd_eq, cmdOf_congr hbits]

/-! ### Commands (R200 to R203) -/

/-- Every command has its word (R86). -/
theorem exists_cmdOf (c : Cmd) : ∃ d, cmdOf d = c := by
  cases c with
  | nop => exact ⟨0, rfl⟩
  | render => exact ⟨1, rfl⟩
  | play => exact ⟨2, rfl⟩
  | rsvd => exact ⟨3, rfl⟩

/-- A command by itself is gated as the write that carries it (R197; log 16). -/
theorem exec_cmdInstr (c : Cmd) (s : State) : exec (cmdInstr c) s = .next (s.whenIdle (State.takeCommand c)) := by
  obtain ⟨d, rfl⟩ := exists_cmdOf c
  rw [← decodeCmd_eq, exec_decodeCmd]

/-- A command outside S_IDLE is discarded (R197; log 16). -/
theorem exec_cmdInstr_of_ne {s : State} (hst : s.st ≠ .idle) (c : Cmd) : exec (cmdInstr c) s = .next s := by
  rw [exec_cmdInstr, State.whenIdle_of_ne hst]

/-- A command in S_IDLE is taken (R200 to R203). -/
theorem exec_cmdInstr_of_idle {s t : State} (hst : s.st = .idle) (c : Cmd) (h : s.takeCommand c = t) :
    exec (cmdInstr c) s = .next t := by
  rw [exec_cmdInstr, State.whenIdle_of_idle hst, h]

end Sys2Proof.Machine

section
open Sys2Proof Sys2Proof.Machine

/-- Settles O48: the turn of the host leaves the block outside S_IDLE as it is, whatever the access word. -/
theorem hostCannotDisturbARunningBlock : Obligations.HostCannotDisturbARunningBlock := by
  intro s w hst hturn
  obtain ⟨t, hexec, hsame⟩ := sameBlock_of_hostTurn (s := s.turnTaken) hst w
  refine ⟨t, ?_, sameBlock_of_turnTaken hsame⟩
  rw [step_eq, hturn]
  exact hexec

/-- Settles O44: a write is discarded, or stores the low bits of its data, or is the command of its low two bits. -/
theorem csrWriteTable : Obligations.CsrWriteTable := by
  intro s d
  refine ⟨fun hst x => exec_csrWr_of_ne hst x d, fun x hx => ?_, fun hst => ?_⟩
  · by_cases hst : s.st = .idle
    · have hctrl : x ≠ 0 := by rintro rfl; simp at hx
      rw [exec_csrWr_of_idle hst hctrl, parameterWrite_readOnly hx]
    · exact exec_csrWr_of_ne hst x d
  · rw [BitVec.setWidth_eq_extractLsb' (by decide)]
    have hparam (x : CsrIdx) (hx : x ≠ 0) : exec (.csrWr x d) s = .next (parameterWrite x d s) :=
      exec_csrWr_of_idle hst hx d
    exact ⟨hparam 2 (by decide), hparam 3 (by decide), hparam 4 (by decide), hparam 5 (by decide), hparam 6 (by decide),
      hparam 7 (by decide), fun h => exec_csrWr_ctrl_of_mod h s, fun h => exec_csrWr_ctrl_of_mod h s,
      fun h => exec_csrWr_ctrl_of_mod h s, fun h => exec_csrWr_ctrl_of_mod h s⟩

/-- Settles O45: the four commands share one gate, and of those taken the reserved one is always refused. -/
theorem nopReservedAndDiscardedCommands : Obligations.NopReservedAndDiscardedCommands := by
  intro s
  exact ⟨rfl, fun hst => exec_cmdInstr_of_idle hst .rsvd rfl, fun hst =>
    ⟨exec_cmdInstr_of_ne hst .render, exec_cmdInstr_of_ne hst .play, exec_cmdInstr_of_ne hst .rsvd⟩⟩

/-- Settles O46: the one check of RENDER is that of the pulse width. -/
theorem renderCommand : Obligations.RenderCommand := by
  intro s hst
  exact ⟨fun hm => exec_render_of_idle hst hm, fun hm => exec_cmdInstr_of_idle hst .render (if_pos hm)⟩

/-- Settles O47: each check of PLAY is reached where those of the lower cause codes have passed (R224). -/
theorem playCommand : Obligations.PlayCommand := by
  intro s hst
  have hplay : ∀ t, s.takePlay = t → exec .play s = .next t := fun _ => exec_cmdInstr_of_idle hst .play
  refine ⟨fun hm => hplay _ ?_, fun hm hfps => hplay _ ?_, fun hm hfps hlen => hplay _ ?_,
    fun hm hfps hlen hrange => hplay _ ?_, fun hm hfps hlen hrange => hplay _ ?_⟩
  · exact if_pos hm
  · exact (if_neg hm).trans (if_pos hfps)
  · exact (if_neg hm).trans ((if_neg hfps).trans (if_pos hlen))
  · exact (if_neg hm).trans ((if_neg hfps).trans ((if_neg hlen).trans (if_pos hrange)))
  · exact (if_neg hm).trans ((if_neg hfps).trans ((if_neg hlen).trans (if_neg (Nat.not_lt.mpr hrange))))

end

/-! PROOF. A fault is left by reset only (O49). -/

namespace Sys2Proof.Machine

/-! ### The turns in S_FAULT with no wait pending (R225) -/

/-- The block's turn runs the step of S_FAULT, which does nothing (R225; log 17). -/
theorem blockTurn_of_fault {s : State} (hst : s.st = .fault) (hw : s.wpend = false) : blockTurn s = .next s := by
  rw [blockTurn_eq, if_neg (by simp [hw]), hst]
  exact (idleAndFaultChangeNothing s).2

/-- The delay source's signal is ignored with no wait pending (R119, R241; log 17). -/
theorem delayTurn_of_free {s : State} (hw : s.wpend = false) : delayTurn s = .next s :=
  if_neg (by simp [hw])

/-- No turn but reset changes the block: its own and the delay source's do nothing, and the host cannot (R205, R225). -/
theorem sameBlock_takeTurn_of_fault {s : State} {u : Turn} (hst : s.st = .fault) (hw : s.wpend = false)
    (hu : u ≠ .reset) : ∃ t, takeTurn u s = .next t ∧ sameBlock s t := by
  cases u with
  | block => exact ⟨s, blockTurn_of_fault hst hw, rfl⟩
  | delay => exact ⟨s, delayTurn_of_free hw, rfl⟩
  | host w => exact sameBlock_of_hostTurn (by simp [hst]) w
  | reset => exact absurd rfl hu

end Sys2Proof.Machine

section
open Sys2Proof Sys2Proof.Machine

/-- Settles O49: the step is the next turn, and taking it off the list is no change of the block. -/
theorem faultStateIsTerminal : Obligations.FaultStateIsTerminal := by
  intro s hst hw hturn
  obtain ⟨t, hstep, hsame⟩ := sameBlock_takeTurn_of_fault (s := s.turnTaken) hst hw hturn
  exact ⟨t, hstep, sameBlock_of_turnTaken hsame⟩

end
